-- ==== Sys2Proof/Syntax.lean ====
section
/-! DEFINITION. The commands of XCS: one constructor per row of the opcode map R92. -/

namespace Sys2Proof

/-- A command (R90, R92). Its operands are the registers ARG0..ARG6 of the snapshot (R93), so no
constructor carries one. -/
inductive Instr where
  /-- 0x01, fixed XOR (R110). -/
  | xor
  /-- 0x02, repeating-key XOR (R111). -/
  | rxor
  /-- 0x10, histogram (R124). -/
  | hist
  /-- 0x11, relative frequencies (R125). -/
  | relfreq
  /-- 0x12, Bhattacharyya coefficient (R126). -/
  | bcoef
  /-- 0x13, score of a text (R127). -/
  | score
  /-- 0x14, load of the reference table (R128). -/
  | ldref
  /-- 0x20, score of one candidate key (R151). -/
  | xscore
  /-- 0x21, best of a list of candidate keys (R152). -/
  | bestxor
  /-- 0x22, single-byte key search (R153). -/
  | sbxor
  /-- 0x23, search over lines (R154). -/
  | detect
  /-- 0x30, PKCS#7 padding (R170). -/
  | pad
  /-- 0x31, removal of padding (R171). -/
  | unpad
  /-- 0x40, CBC encryption (R184). -/
  | cbcenc
  /-- 0x41, CBC decryption (R185). -/
  | cbcdec
deriving DecidableEq, Repr

end Sys2Proof
end

