-- ==== Sys2Proof/Word.lean ====
section
/-! DEFINITION. The word types of XCS (R7): bytes, 32-bit register words and binary64 encodings. -/

namespace Sys2Proof

/-- An 8-bit byte (R11). -/
abbrev Byte := BitVec 8

/-- A 32-bit register word (R7). -/
abbrev Word := BitVec 32

/-- The 64-bit encoding of an IEEE 754 binary64 value (R7, R15). -/
abbrev F64 := BitVec 64

end Sys2Proof
end

