-- ==== Sys2Proof/WellFormed.lean ====
section
/-! DEFINITION. Well-formedness of commands, of their operand lists and of the parameter BUF_SIZE. -/

namespace Sys2Proof

/-- How many ARG registers a command's row of R93 names. -/
def operandCount : Instr → Nat
  | .xor => 5
  | .rxor => 5
  | .hist => 3
  | .relfreq => 3
  | .bcoef => 2
  | .score => 2
  | .ldref => 1
  | .xscore => 5
  | .bestxor => 5
  | .sbxor => 3
  | .detect => 3
  | .pad => 3
  | .unpad => 3
  | .cbcenc => 7
  | .cbcdec => 7

/-- A command as syntax has no field that could be out of range: its operands are registers (R90). -/
def Instr.wellFormed (i : Instr) : Bool := decide (operandCount i ≤ 8)

/-- A command statement's operand list (R97): exactly the operands its row of R93 names, each an
integer below 2^32. -/
def operandsWellFormed (i : Instr) (vs : List Nat) : Bool :=
  decide (vs.length = operandCount i) && vs.all (fun v => decide (v < 2 ^ 32))

/-- The constraint of R8 on the parameter BUF_SIZE. -/
def bufSizeWellFormed (n : Nat) : Bool :=
  decide (n % 4 = 0) && decide (4096 ≤ n) && decide (n ≤ 2 ^ 30)

end Sys2Proof
end

