-- ==== Sys2Proof/Decode.lean ====
section
/-! DEFINITION. The command decoder of R96 and the encoder of R92. -/

namespace Sys2Proof

/-- Why a CMD word is illegal (R95). -/
inductive DecodeError where
  /-- CMD[31:8] is not zero. -/
  | reservedBitsSet
  /-- CMD[31:8] is zero and CMD[7:0] is not in the opcode map. -/
  | unlistedOpcode
deriving DecidableEq, Repr

/-- CMD[7:0], the field OPC (R90). -/
def opcodeField (cmd : Word) : Nat := (cmd.extractLsb' 0 8).toNat

/-- CMD[31:8], the field RSV (R90). -/
def reservedField (cmd : Word) : Nat := (cmd.extractLsb' 8 24).toNat

/-- The opcode map read as a case on OPC (R96). -/
def decodeOpcode : Nat → Except DecodeError Instr
  | 0x01 => .ok .xor
  | 0x02 => .ok .rxor
  | 0x10 => .ok .hist
  | 0x11 => .ok .relfreq
  | 0x12 => .ok .bcoef
  | 0x13 => .ok .score
  | 0x14 => .ok .ldref
  | 0x20 => .ok .xscore
  | 0x21 => .ok .bestxor
  | 0x22 => .ok .sbxor
  | 0x23 => .ok .detect
  | 0x30 => .ok .pad
  | 0x31 => .ok .unpad
  | 0x40 => .ok .cbcenc
  | 0x41 => .ok .cbcdec
  | _ => .error .unlistedOpcode

/-- The decoder, a total function of CMD[31:0] (R96). -/
def decode (cmd : Word) : Except DecodeError Instr :=
  if reservedField cmd ≠ 0 then .error .reservedBitsSet else decodeOpcode (opcodeField cmd)

/-- The CMD word of a command (R92). -/
def encode : Instr → Word
  | .xor => 0x00000001
  | .rxor => 0x00000002
  | .hist => 0x00000010
  | .relfreq => 0x00000011
  | .bcoef => 0x00000012
  | .score => 0x00000013
  | .ldref => 0x00000014
  | .xscore => 0x00000020
  | .bestxor => 0x00000021
  | .sbxor => 0x00000022
  | .detect => 0x00000023
  | .pad => 0x00000030
  | .unpad => 0x00000031
  | .cbcenc => 0x00000040
  | .cbcdec => 0x00000041

/-- The CMD word whose low `nbits` bits are those of `w` and whose other bits are 0. -/
def tableWord (nbits w : Nat) : Word := BitVec.ofNat 32 (w % 2 ^ nbits)

/-- The decoder on a word numbered as the opcode table numbers its bits. -/
def decodeTableWord (nbits w : Nat) : Option Instr :=
  match decode (tableWord nbits w) with
  | .ok i => some i
  | .error _ => none

end Sys2Proof
end

