-- ==== Sys2Proof/Machine/Bytes.lean ====
section
/-! DEFINITION. Byte sequences and little-endian fields (R11, R13, R62). -/

namespace Sys2Proof.Machine

/-- The byte-wise exclusive-or of two sequences of one length (R11, R113). -/
def xorBytes (a b : List Byte) : List Byte := List.zipWith (fun x y => x ^^^ y) a b

/-- `cyc(K, n)`: the key bytes in a cycle, n bytes long (R111). -/
def cyc (k : List Byte) (n : Nat) : List Byte :=
  (List.range n).map (fun i => k.getD (i % k.length) 0)

/-- `rxor(K, M)`: repeating-key XOR (R111). -/
def rxorBytes (k m : List Byte) : List Byte := xorBytes m (cyc k m.length)

/-- The unsigned value of a little-endian field (R13, R62). -/
def leNat : List Byte → Nat
  | [] => 0
  | b :: bs => b.toNat + 256 * leNat bs

/-- The little-endian field of `n` bytes with the value `v mod 256^n` (R13, R62). -/
def leBytes : Nat → Nat → List Byte
  | 0, _ => []
  | n + 1, v => BitVec.ofNat 8 v :: leBytes n (v / 256)

/-- `blk(S, B, i)`: block i of a sequence (R183). -/
def blk (s : List Byte) (b i : Nat) : List Byte := (s.drop (i * b)).take b

end Sys2Proof.Machine
end

