-- ==== Sys2Proof/Config.lean ====
section
/-! DEFINITION. What an implementation or the platform fixes, and the free values: opaque constants,
of which no proof can know a value. -/

namespace Sys2Proof

/-- The platform address of offset 0 (R60, S12): XCS never reads it. -/
opaque Config.xcsBase : Nat

/-- The byte that scratchpad address `a` holds after power-on number `epoch` (R240, S1), until it is
written. -/
opaque Config.spPowerOn : (epoch a : Nat) → Byte

/-- The entry `v` of REF after power-on number `epoch` (R240, S2), until LDREF writes it. -/
opaque Config.refPowerOn : (epoch v : Nat) → F64

/-- The n-th unspecified byte that the machine draws: a read of DIRTY while BUSY (R68, S3), the output
region after EcbPrimitiveFailure (R207 b, S4), the DIRTY region of an aborted command (R241 c, S5). -/
opaque Config.freeByte : (n : Nat) → Byte

/-- GRAPHEMES on a byte sequence with a byte of 0x80 or above: whether there is a symbol boundary
before index `i` (R122, S10). -/
opaque Config.graphemeBreak : (s : List Byte) → (i : Nat) → Bool

/-- UFOLD on a byte sequence with a byte of 0x80 or above: the first byte of the result (R122). -/
opaque Config.ufoldHead : (s : List Byte) → Byte

/-- UFOLD on a byte sequence with a byte of 0x80 or above: the bytes after the first (R122). -/
opaque Config.ufoldTail : (s : List Byte) → List Byte

/-- The sign and payload of a NaN result; IEEE 754 leaves them open, and R129 says that no NaN arises. -/
opaque Config.nanBits : (x y : F64) → F64

end Sys2Proof
end

