-- ==== Sys2Proof/Machine/State.lean ====
section
/-! DEFINITION. The state of XCS (R20): the register block, REF, the scratchpad, the engine's hidden
state, and the model's own fields for the coming inputs and the last host response. -/

namespace Sys2Proof.Machine

/-- The scratchpad as the list of the bytes written since power-on, by rising address (R38). -/
structure Memory where
  cells : List Host.Cell
deriving DecidableEq, Repr

/-- A region of engine bytes (R18): address and length. -/
structure Region where
  addr : Nat
  len : Nat
deriving DecidableEq, Repr

/-- The error codes of R200, by name. -/
inductive ErrCode where
  /-- 0x01: CMD is illegal. -/
  | illegalCmd
  /-- 0x02: BLKSZ is 0. -/
  | badBlksz
  /-- 0x03: a region is not in range. -/
  | range
  /-- 0x04: the output region overlaps an input region. -/
  | overlap
  /-- 0x05: the operands of XOR differ in length. -/
  | lengthMismatch
  /-- 0x06: an empty text, or an empty candidate list. -/
  | emptyInput
  /-- 0x07: reserved for an operation out of scope; no command raises it. -/
  | keysizeTooLarge
  /-- 0x08: the IV is not one block long. -/
  | invalidIVLength
  /-- 0x09: the ciphertext is not a whole number of blocks. -/
  | invalidCiphertextLength
  /-- 0x0A: the oracle answered Fail. -/
  | ecbPrimitiveFailure
  /-- 0x0B: a key of length 0. -/
  | emptyKey
  /-- 0x0C: no last byte, or the last byte exceeds the length. -/
  | unpadRange
  /-- 0x0D: no reference table is loaded. -/
  | refUnloaded
  /-- 0x0E: a weight is negative, -0.0, infinite or NaN. -/
  | badWeight
deriving DecidableEq, Repr

/-- The three states of the engine (R39 a). -/
inductive Engine where
  | idle
  | run
  | waitEcb
deriving DecidableEq, Repr

/-- The direction of an oracle request (R182). -/
inductive EcbDir where
  | enc
  | dec
deriving DecidableEq, Repr

/-- An oracle request (R182): direction, key bytes, one block. -/
structure EcbRequest where
  dir : EcbDir
  key : List Byte
  block : List Byte
deriving DecidableEq, Repr

/-- An oracle answer (R181): a block, or a failure. -/
inductive EcbAnswer where
  | ok (block : List Byte)
  | fail
deriving DecidableEq, Repr

/-- The snapshot taken at START (R30). -/
structure Snapshot where
  cmd : Word
  args : Vector Word 8
  blksz : Byte
  sym : Bool
  ref : Vector F64 256
  refValid : Bool
deriving DecidableEq, Repr

/-- The empty snapshot of an engine that has run no command since reset (R240). -/
def Snapshot.none : Snapshot where
  cmd := 0
  args := Vector.replicate 8 0
  blksz := 0
  sym := false
  ref := Vector.replicate 256 0
  refValid := false

/-- The locals of the loops of CBCENC and CBCDEC (R184, R185): the padded plaintext `Q` or the
ciphertext `C`, the key `K`, the chaining block `prev` and the block index `i`. -/
structure CbcLocals where
  data : List Byte
  key : List Byte
  prev : List Byte
  block : Nat
deriving DecidableEq, Repr

/-- The internal progress of the running command (R39 e). -/
inductive Progress where
  /-- Nothing of the command has been executed. -/
  | fresh
  /-- The request for block `l.block` is outstanding. -/
  | waiting (l : CbcLocals)
  /-- The request for block `l.block` has been answered. -/
  | answered (l : CbcLocals) (a : EcbAnswer)
deriving DecidableEq, Repr

/-- The width of a host access (R65): 1, 2 or 4 bytes. -/
inductive Width where
  | byte
  | half
  | word
deriving DecidableEq, Repr

/-- The response to a host access (R66). -/
inductive HostResp where
  /-- A write was accepted. -/
  | ok
  /-- A read returned `v`. -/
  | value (v : Word)
  /-- The access was refused and had no effect. -/
  | busErr
deriving DecidableEq, Repr

/-- An event from outside the engine, or a turn given to the engine. -/
inductive Input where
  /-- HostRead(off, w) (R66). -/
  | hostRead (off : Word) (w : Width)
  /-- HostWrite(off, w, v) (R66). -/
  | hostWrite (off : Word) (w : Width) (v : Word)
  /-- The host's polling loop `wait` (R98). -/
  | hostWait
  /-- The engine takes a step. -/
  | engine
  /-- The oracle answers request number `n` (R182). The number is the model's choice (DESIGN CHOICE, log
  entry 29): the spec gives answers no identity, but discards the late answer to an abandoned request. -/
  | oracle (n : Nat) (a : EcbAnswer)
  /-- Power-on reset (R240). -/
  | powerOn
deriving DecidableEq, Repr

/-- A register as the host names it (R21). -/
inductive Reg where
  | id
  | cfg
  | ctrl
  | status
  | inten
  | cmd
  | blksz
  | arg (i : Fin 8)
  | resLen
  | resKey
  | resIdx
  | resScoreLo
  | resScoreHi
  | refValid
  | bufSize
  | reserved
  /-- A word of the REF window (R36): entry `i`, its high or its low half. -/
  | refWord (i : Fin 256) (hi : Bool)
deriving DecidableEq, Repr

/-- The whole state. -/
structure State where
  /-- CFG.SYM (R23). -/
  sym : Bool
  /-- STATUS.DONE (R25). -/
  done : Bool
  /-- STATUS.ERR (R25). -/
  err : Bool
  /-- STATUS.ERRCODE (R25). -/
  errCode : Byte
  /-- INTEN.IE (R26). -/
  ie : Bool
  /-- CMD (R28). -/
  cmd : Word
  /-- BLKSZ[7:0] (R27). -/
  blksz : Byte
  /-- ARG0..ARG7 (R29). -/
  args : Vector Word 8
  /-- RES_LEN (R31). -/
  resLen : Word
  /-- RES_KEY[7:0] (R31). -/
  resKey : Byte
  /-- RES_IDX (R31). -/
  resIdx : Word
  /-- RES_SCORE_HI and RES_SCORE_LO as one encoding (R32). -/
  resScore : F64
  /-- REF_VALID (R37). -/
  refValid : Bool
  /-- REF (R36). -/
  ref : Vector F64 256
  /-- BUF_SIZE (R8, R34); no step writes it. -/
  bufSize : Nat
  /-- The scratchpad (R38). -/
  sp : Memory
  /-- ENGINE (R39 a). -/
  engine : Engine
  /-- SNAP (R39 b). -/
  snap : Snapshot
  /-- PEND (R39 c). -/
  pend : Option EcbRequest
  /-- DIRTY (R39 d). -/
  dirty : Option Region
  /-- The command's internal progress (R39 e). -/
  progress : Progress
  /-- The model's own: the coming events, oldest first. -/
  inputs : List Input
  /-- The model's own: the response to the latest host access. -/
  hostResp : Option HostResp
  /-- The model's own: how many free bytes have been drawn. -/
  draws : Nat
  /-- The model's own: how many oracle requests have been issued; the outstanding one, if any, has this
  number (DESIGN CHOICE, log entry 29). -/
  issued : Nat
  /-- The model's own: the number of earlier power-on resets. -/
  epoch : Nat
deriving DecidableEq, Repr

/-- REF after power-on number `epoch`: every entry is unspecified (R240). -/
def refAfterPowerOn (epoch : Nat) : Vector F64 256 :=
  Vector.ofFn (fun v => Config.refPowerOn epoch v.val)

/-- The state after power-on reset (R240). -/
def State.reset : State where
  sym := false
  done := false
  err := false
  errCode := 0
  ie := false
  cmd := 0
  blksz := 16
  args := Vector.replicate 8 0
  resLen := 0
  resKey := 0
  resIdx := 0
  resScore := 0
  refValid := false
  ref := refAfterPowerOn 0
  bufSize := 65536
  sp := { cells := [] }
  engine := .idle
  snap := Snapshot.none
  pend := .none
  dirty := .none
  progress := .fresh
  inputs := []
  hostResp := .none
  draws := 0
  issued := 0
  epoch := 0

/-- Why a step stops. -/
inductive Fault where
  /-- Raised by an `Input.oracle` that answers the outstanding request with a block of another length
  than BLKSZ. R181 says that the port cannot express such an answer, so no behaviour of XCS is lost.
  Safe. -/
  | oracleAnswerShape
deriving DecidableEq, Repr

/-- Why an instruction has no meaning. -/
inductive Refusal where
  /-- Raised by an arm of `exec` for a command without a meaning. Safe. -/
  | notModelled (mnemonic : String)
deriving DecidableEq, Repr

end Sys2Proof.Machine
end

