-- ==== Sys2Proof/Machine/Ops.lean ====
section
/-! DEFINITION. The named operations over the scratchpad, the registers, the engine and the oracle
port that every command shares: memory (R13, R61), free draws (S3 to S5), completion and error
completion (R206), the oracle transaction (R182). -/

namespace Sys2Proof.Machine

/-! ## Memory -/

/-- The canonical form: addresses strictly rising. An unlisted byte reads as no value at all, so no
entry could equal it. -/
def Memory.wf (m : Memory) : Bool := decide (m.cells.Pairwise (fun c d => c.1 < d.1))

/-- The byte written at `a` since power-on, if any. -/
def Memory.get? (m : Memory) (a : Nat) : Option Byte :=
  (m.cells.find? (fun c => c.1 == a)).map (fun c => c.2)

/-- The cells of a run of bytes from address `a` up. -/
def cellsFrom : Nat → List Byte → List Host.Cell
  | _, [] => []
  | a, b :: bs => (a, b) :: cellsFrom (a + 1) bs

/-- `MemWrite(a, len(bs), bs)` (R13): the bytes at `a`, `a + 1`, … become `bs`. -/
def Memory.write (m : Memory) (a : Nat) (bs : List Byte) : Memory :=
  { cells := m.cells.filter (fun c => decide (c.1 < a)) ++ cellsFrom a bs
      ++ m.cells.filter (fun c => decide (a + bs.length ≤ c.1)) }

/-- What a scratchpad address reads that nothing has written since power-on (R240, S1): a free byte,
the same at every read until it is written. -/
def unlistedByte (epoch a : Nat) : Byte := Config.spPowerOn epoch a

/-- `SP[a]` (R38). -/
def State.byteAt (s : State) (a : Nat) : Byte := (s.sp.get? a).getD (unlistedByte s.epoch a)

/-- `MemRead(a, n)` (R13). -/
def State.memRead (s : State) (a n : Nat) : List Byte :=
  (List.range n).map (fun i => s.byteAt (a + i))

/-- The bytes of a region (R18). -/
def State.readRegion (s : State) (r : Region) : List Byte := s.memRead r.addr r.len

/-- `MemWrite(a, len(bs), bs)` on the scratchpad (R13). -/
def State.memWrite (s : State) (a : Nat) (bs : List Byte) : State :=
  { s with sp := s.sp.write a bs }

/-- `u32le` of the four bytes at `a` (R13). -/
def State.u32At (s : State) (a : Nat) : Nat := leNat (s.memRead a 4)

/-- `f64le` of the eight bytes at `a` (R13). -/
def State.f64At (s : State) (a : Nat) : F64 := BitVec.ofNat 64 (leNat (s.memRead a 8))

/-! ## Unspecified bytes -/

/-- The next `n` free bytes. -/
def State.freshBytes (s : State) (n : Nat) : List Byte :=
  (List.range n).map (fun i => Config.freeByte (s.draws + i))

/-- Every byte of the region becomes unspecified: drawn once, now, then stable (S4, S5). -/
def State.scramble (s : State) (r : Region) : State :=
  { s with sp := s.sp.write r.addr (s.freshBytes r.len), draws := s.draws + r.len }

/-! ## The engine's view of its state -/

/-- STATUS.BUSY (R39 a). -/
def State.busy (s : State) : Bool := decide (s.engine ≠ .idle)

/-- `ARG[i]` inside a command: the snapshot's value, as a non-negative integer (R12, R91). -/
def State.arg (s : State) (i : Fin 8) : Nat := (s.snap.args.get i).toNat

/-- `BLKSZ` inside a command (R12, R91). -/
def State.blkLen (s : State) : Nat := s.snap.blksz.toNat

/-- The weights of a reference table, by bin (R36). -/
def weightsOf (ref : Vector F64 256) (v : Nat) : F64 := ref.toList.getD v 0

/-- `REF` inside a command (R30). -/
def State.snapRef (s : State) : Nat → F64 := weightsOf s.snap.ref

/-! ## Result registers (R31, R32) -/

def State.setResLen (s : State) (n : Nat) : State := { s with resLen := BitVec.ofNat 32 n }

def State.setResKey (s : State) (k : Byte) : State := { s with resKey := k }

def State.setResIdx (s : State) (n : Nat) : State := { s with resIdx := BitVec.ofNat 32 n }

def State.setResScore (s : State) (x : F64) : State := { s with resScore := x }

/-- LDREF's effect at completion: all 256 entries at once, and REF_VALID (R128, R37). -/
def State.loadRef (s : State) (w : Nat → F64) : State :=
  { s with ref := Vector.ofFn (fun v => w v.val), refValid := true }

/-! ## Completion (R206): the "trap entry" of XCS, and the way back (R208) -/

/-- The numbers of R200. -/
def ErrCode.code : ErrCode → Byte
  | .illegalCmd => 0x01
  | .badBlksz => 0x02
  | .range => 0x03
  | .overlap => 0x04
  | .lengthMismatch => 0x05
  | .emptyInput => 0x06
  | .keysizeTooLarge => 0x07
  | .invalidIVLength => 0x08
  | .invalidCiphertextLength => 0x09
  | .ecbPrimitiveFailure => 0x0A
  | .emptyKey => 0x0B
  | .unpadRange => 0x0C
  | .refUnloaded => 0x0D
  | .badWeight => 0x0E

/-- The completion event (R206), with ERR and ERRCODE: DONE is set, the engine becomes IDLE, DIRTY and
PEND become none, and the progress ends. -/
def State.complete (s : State) (err : Bool) (code : Byte) : State :=
  { s with
    done := true, err := err, errCode := code, engine := .idle, dirty := none, pend := none,
    progress := .fresh }

/-- Completion without an error (R206). -/
def State.finish (s : State) : State := s.complete false 0

/-- `raise Error(c)` (R14, R206): completion with an error. The result registers keep the zeros that
START gave them. -/
def State.raiseError (s : State) (c : ErrCode) : State := s.complete true c.code

/-- `clrdone` (R25, R208 a): DONE, ERR and ERRCODE are cleared together. -/
def State.clearDone (s : State) : State := { s with done := false, err := false, errCode := 0 }

/-! ## Checks (R203, R204) -/

/-- A check: whether it passes, and the error it raises if it does not. -/
structure Check where
  ok : Bool
  code : ErrCode
deriving DecidableEq, Repr

/-- The first check that fails is the one error reported (R204). -/
def firstFailure : List Check → Option ErrCode
  | [] => none
  | c :: cs => if c.ok then firstFailure cs else some c.code

/-- `overlap` (R71, R203). -/
def Region.overlaps (o r : Region) : Bool :=
  decide (0 < o.len ∧ 0 < r.len ∧ o.addr < r.addr + r.len ∧ r.addr < o.addr + o.len)

/-- A region is in range when its end, without wrap-around, is at most BUF_SIZE (R70). -/
def Region.inRange (r : Region) (bufSize : Nat) : Bool := decide (r.addr + r.len ≤ bufSize)

/-- A check that raises `code` unless `p` holds. -/
def need (p : Bool) (code : ErrCode) : Check := { ok := p, code := code }

/-- `need_range` (R203). -/
def State.needRange (s : State) (r : Region) : Check := need (r.inRange s.bufSize) .range

/-- `need_disjoint` (R203). -/
def needDisjoint (o : Region) (rs : List Region) : List Check :=
  rs.map (fun r => need (!o.overlaps r) .overlap)

/-- A command's pseudocode: the checks in order, then the body (R204). -/
def State.guarded (s : State) (checks : List Check) (body : State) : State :=
  match firstFailure checks with
  | some e => s.raiseError e
  | none => body

/-! ## The ECB oracle port (R182) -/

/-- The engine issues a request and waits: PEND and ENGINE of R182, with the locals of its loop. The
request takes the next number (log entry 29). -/
def State.ecbRequest (s : State) (dir : EcbDir) (l : CbcLocals) (block : List Byte) : State :=
  { s with
    pend := some { dir := dir, key := l.key, block := block }, engine := .waitEcb,
    progress := .waiting l, issued := s.issued + 1 }

/-- The oracle's answer reaches the engine: PEND becomes none and ENGINE becomes RUN (R182). -/
def State.ecbAnswer (s : State) (a : EcbAnswer) : State :=
  { s with
    pend := none, engine := .run,
    progress := match s.progress with
      | .waiting l => .answered l a
      | p => p }

end Sys2Proof.Machine
end

