-- ==== Sys2Proof/Machine/Float64.lean ====
section
/-! DEFINITION. The binary64 operations of R15, on encodings: each computes the exact result as a
fraction of natural numbers, in units of 2^-1074 (of which every finite value is a whole multiple), and
rounds it once, to nearest, ties to even. -/

namespace Sys2Proof.Machine

/-- The sign bit. -/
def f64Sign (x : F64) : Bool := x.getLsbD 63

/-- The encoding without its sign bit. -/
def f64Mag (x : F64) : Nat := x.toNat % 2 ^ 63

/-- The magnitude code of infinity: exponent 0x7FF, fraction 0. -/
def infMag : Nat := 0x7FF0000000000000

/-- A NaN: exponent 0x7FF and a fraction that is not zero. -/
def f64IsNaN (x : F64) : Bool := decide (infMag < f64Mag x)

/-- An infinity. -/
def f64IsInf (x : F64) : Bool := decide (f64Mag x = infMag)

/-- The magnitude of a finite value in units of 2^-1074. -/
def f64Scaled (x : F64) : Nat :=
  let e := f64Mag x / 2 ^ 52
  let f := f64Mag x % 2 ^ 52
  if e = 0 then f else (2 ^ 52 + f) * 2 ^ (e - 1)

/-- The encoding with the given sign and magnitude code. -/
def f64Pack (sign : Bool) (mag : Nat) : F64 :=
  BitVec.ofNat 64 ((if sign then 2 ^ 63 else 0) + mag)

/-- A quiet NaN whose sign and payload are free bits. -/
def f64NaN (x y : F64) : F64 :=
  0x7FF8000000000000#64 ||| (Config.nanBits x y &&& 0x8007FFFFFFFFFFFF#64)

/-- `num / den` rounded to the nearest natural number, ties to even. -/
def divRoundEven (num den : Nat) : Nat :=
  let q := num / den
  let r := num % den
  if den < 2 * r then q + 1
  else if 2 * r = den then q + q % 2
  else q

/-- By how many binary places a magnitude of whole part `w` (in units of 2^-1074) exceeds the 53 bits
of a significand. -/
def excessBits (w : Nat) : Nat := if w < 2 ^ 53 then 0 else Nat.log2 w - 52

/-- A magnitude code, or infinity's where the rounded value is out of range. A significand that
rounding carried to 2^53 moves into the next exponent by the addition. -/
def magOfRounded (shift sig : Nat) : Nat := min (shift * 2 ^ 52 + sig) infMag

/-- The magnitude code nearest to `num / den` units of 2^-1074. -/
def roundRatio (num den : Nat) : Nat :=
  let shift := excessBits (num / den)
  magOfRounded shift (divRoundEven num (den * 2 ^ shift))

/-- The natural square root, rounded down, of a number below `4^k`. -/
def isqrt : Nat → Nat → Nat
  | 0, _ => 0
  | k + 1, n =>
    let r := 2 * isqrt k (n / 4)
    if (r + 1) * (r + 1) ≤ n then r + 1 else r

/-- The magnitude code nearest to the square root of `n`, in units of 2^-1074. -/
def roundSqrt (n : Nat) : Nat :=
  let r := isqrt (Nat.log2 n / 2 + 1) n
  let shift := excessBits r
  let f := r / 2 ^ shift
  let half := (2 * f + 1) * 2 ^ shift
  let sig :=
    if half * half < 4 * n then f + 1
    else if half * half = 4 * n then f + f % 2
    else f
  magOfRounded shift sig

/-- The value of a finite encoding, as a signed number of units of 2^-1074. -/
def f64Units (x : F64) : Int :=
  if f64Sign x then -(f64Scaled x : Int) else (f64Scaled x : Int)

/-- `f64_add` (R15). -/
def f64Add (x y : F64) : F64 :=
  if f64IsNaN x || f64IsNaN y then f64NaN x y
  else if f64IsInf x then
    if f64IsInf y && (f64Sign x != f64Sign y) then f64NaN x y else x
  else if f64IsInf y then y
  else
    let sum := f64Units x + f64Units y
    if sum = 0 then f64Pack (f64Sign x && f64Sign y) 0
    else f64Pack (decide (sum < 0)) (roundRatio sum.natAbs 1)

/-- `f64_mul` (R15). -/
def f64Mul (x y : F64) : F64 :=
  let sign := f64Sign x != f64Sign y
  if f64IsNaN x || f64IsNaN y then f64NaN x y
  else if f64IsInf x || f64IsInf y then
    if f64Mag x = 0 || f64Mag y = 0 then f64NaN x y else f64Pack sign infMag
  else f64Pack sign (roundRatio (f64Scaled x * f64Scaled y) (2 ^ 1074))

/-- `f64_div` (R15). -/
def f64Div (x y : F64) : F64 :=
  let sign := f64Sign x != f64Sign y
  if f64IsNaN x || f64IsNaN y then f64NaN x y
  else if f64IsInf x then
    if f64IsInf y then f64NaN x y else f64Pack sign infMag
  else if f64IsInf y then f64Pack sign 0
  else if f64Mag y = 0 then
    if f64Mag x = 0 then f64NaN x y else f64Pack sign infMag
  else f64Pack sign (roundRatio (f64Scaled x * 2 ^ 1074) (f64Scaled y))

/-- `f64_sqrt` (R15). -/
def f64Sqrt (x : F64) : F64 :=
  if f64IsNaN x then f64NaN x x
  else if f64Mag x = 0 then x
  else if f64Sign x then f64NaN x x
  else if f64IsInf x then x
  else f64Pack false (roundSqrt (f64Scaled x * 2 ^ 1074))

/-- `f64_of_nat` (R15): exact below 2^32. -/
def f64OfNat (n : Nat) : F64 := f64Pack false (roundRatio (n * 2 ^ 1074) 1)

/-- `f64_gt` (R15): numerically greater; false if either is a NaN. -/
def f64Gt (x y : F64) : Bool :=
  if f64IsNaN x || f64IsNaN y then false
  else decide ((if f64Sign y then -(f64Mag y : Int) else (f64Mag y : Int))
    < (if f64Sign x then -(f64Mag x : Int) else (f64Mag x : Int)))

/-- `weight_ok` (R126): sign bit 0 and exponent field not 0x7FF. -/
def weightOk (x : F64) : Bool := !f64Sign x && decide (f64Mag x < infMag)

end Sys2Proof.Machine
end

