-- ==== Sys2Proof/Machine/Symbols.lean ====
section
/-! DEFINITION. Symbols, bins, histograms, relative frequencies and the score of a text
(R120 to R127). -/

namespace Sys2Proof.Machine

/-- The case fold of one byte (R121): 'A'..'Z' to 'a'..'z'. -/
def bfold (v : Byte) : Byte :=
  if 0x41 ≤ v.toNat ∧ v.toNat ≤ 0x5A then v + 0x20 else v

/-- Every byte is below 0x80. -/
def isAscii (s : List Byte) : Bool := s.all (fun b => decide (b.toNat < 0x80))

/-- Law L4 of R122: each byte is a symbol of its own, except that CR LF is one symbol. -/
def asciiSegments : List Byte → List (List Byte)
  | [] => []
  | [b] => [[b]]
  | b :: c :: rest =>
    if b = 0x0D#8 ∧ c = 0x0A#8 then [b, c] :: asciiSegments rest
    else [b] :: asciiSegments (c :: rest)

/-- A sequence cut into non-empty pieces, with a boundary before the index `i` where `brk i`; the first
byte has the index `k`. -/
def cutSymbols (brk : Nat → Bool) : Nat → List Byte → List (List Byte)
  | _, [] => []
  | k, b :: rest =>
    match cutSymbols brk (k + 1) rest with
    | [] => [[b]]
    | g :: gs => if brk (k + 1) then [b] :: g :: gs else (b :: g) :: gs

/-- GRAPHEMES (R122): law L4 on bytes below 0x80, else any partition (law L1). -/
def graphemes (s : List Byte) : List (List Byte) :=
  if isAscii s then asciiSegments s else cutSymbols (Config.graphemeBreak s) 0 s

/-- UFOLD (R122): law L3 on bytes below 0x80, else any non-empty result (law L2) that keeps law L5. -/
def ufold (s : List Byte) : List Byte :=
  if isAscii s then s.map bfold
  else
    let t := Config.ufoldHead s :: Config.ufoldTail s
    if (graphemes t).length ≤ s.length then t else s

/-- `syms(P, SYM)` (R121); `sym` is CFG.SYM. -/
def syms (p : List Byte) (sym : Bool) : List (List Byte) :=
  if sym then p.map (fun b => [bfold b]) else graphemes (ufold p)

/-- The bin of a symbol (R121): its byte, or 256 for OTHER. -/
def binOf : List Byte → Nat
  | [b] => b.toNat
  | _ => 256

/-- The count of bin `v` (R124); bin 256 is OTHER. -/
def binCount (ss : List (List Byte)) (v : Nat) : Nat := ss.countP (fun s => binOf s == v)

/-- The histogram block of a text (R76, R124). -/
def histBlock (p : List Byte) (sym : Bool) : List Byte :=
  let ss := syms p sym
  (List.range 257).flatMap (fun v => leBytes 4 (binCount ss v))

/-- `relfreq(P, SYM)` (R125); bin 256 is OTHER. -/
def relfreq (p : List Byte) (sym : Bool) : Nat → F64 :=
  let ss := syms p sym
  let tot := f64OfNat ss.length
  fun v => f64Div (f64OfNat (binCount ss v)) tot

/-- The frequency block of a text (R77, R125). -/
def freqBlock (p : List Byte) (sym : Bool) : List Byte :=
  let q := relfreq p sym
  (List.range 257).flatMap (fun v => leBytes 8 (q v).toNat)

/-- `bc(p, q)` (R126): the terms are summed in ascending bin order from +0.0. -/
def bcoef (p q : Nat → F64) : F64 :=
  (List.range 256).foldl (fun acc v => f64Add acc (f64Sqrt (f64Mul (p v) (q v)))) 0

/-- `escore(P, SYM, REF)` (R127); OTHER takes no part. -/
def escore (p : List Byte) (sym : Bool) (ref : Nat → F64) : F64 := bcoef ref (relfreq p sym)

/-- The loop of R150 from candidate `j` on, with the best candidate so far. -/
def firstMaxFrom (best : Nat) (sBest : F64) (j : Nat) : List F64 → Nat
  | [] => best
  | x :: xs =>
    if f64Gt x sBest then firstMaxFrom j x (j + 1) xs else firstMaxFrom best sBest (j + 1) xs

/-- The winner of a search (R150): the index of the first maximal score. -/
def firstMax : List F64 → Nat
  | [] => 0
  | x :: xs => firstMaxFrom 0 x 1 xs

/-- The result of a single-byte key search: key, score and plaintext. -/
structure SearchResult where
  key : Byte
  score : F64
  plain : List Byte
deriving DecidableEq, Repr

/-- The plaintext of the one-byte key `k` (R153). -/
def singleByteXor (k : Nat) (c : List Byte) : List Byte := rxorBytes [BitVec.ofNat 8 k] c

/-- `sbsearch(C, SYM, REF)` (R153): the keys 0..255 in ascending order. -/
def sbsearch (c : List Byte) (sym : Bool) (ref : Nat → F64) : SearchResult :=
  let scores := (List.range 256).map (fun k => escore (singleByteXor k c) sym ref)
  let k := firstMax scores
  { key := BitVec.ofNat 8 k, score := scores.getD k 0, plain := singleByteXor k c }

end Sys2Proof.Machine
end

