-- ==== Sys2Proof/Machine/Operands.lean ====
section
/-! DEFINITION. The operand maps of R93 as regions, and every command's validation checks in the
order in which its rule lists them (R204). All of it reads the snapshot (R12) and the scratchpad. -/

namespace Sys2Proof.Machine

/-- The region whose address is `ARG[i]` and whose length is `ARG[j]`. -/
def State.argRegion (s : State) (i j : Fin 8) : Region := { addr := s.arg i, len := s.arg j }

/-- The region of `n` bytes whose address is `ARG[i]`. -/
def State.argSized (s : State) (i : Fin 8) (n : Nat) : Region := { addr := s.arg i, len := n }

/-! ## Memory formats -/

/-- The length of a weight table (R75). -/
def tableLen : Nat := 2048

/-- The length of a histogram block (R76). -/
def histLen : Nat := 1028

/-- The length of a frequency block (R77). -/
def freqLen : Nat := 2056

/-- The weights of the table at address `a` (R75). -/
def State.tableAt (s : State) (a : Nat) : Nat → F64 := fun v => s.f64At (a + 8 * v)

/-- Every entry of the table at `a` satisfies `weight_ok` (R126, R128). -/
def State.tableOk (s : State) (a : Nat) : Bool :=
  (List.range 256).all (fun v => weightOk (s.tableAt a v))

/-- The descriptor table of BESTXOR and DETECT: `(ARG0, 8*ARG1)` (R74, R93). -/
def State.descTable (s : State) : Region := s.argSized 0 (8 * s.arg 1)

/-- Entry `j` of the descriptor table (R74). -/
def State.descEntry (s : State) (j : Nat) : Region :=
  { addr := s.u32At (s.arg 0 + 8 * j), len := s.u32At (s.arg 0 + 8 * j + 4) }

/-- The entries of the descriptor table (R74); none where the table itself is out of range, which no
command gets past. -/
def State.descEntries (s : State) : List Region :=
  if s.descTable.inRange s.bufSize then (List.range (s.arg 1)).map s.descEntry else []

/-- `M`, the greatest length of a list of regions (R154). -/
def maxLen : List Region → Nat
  | [] => 0
  | r :: rs => max r.len (maxLen rs)

/-! ## Padding -/

/-- `padlen(n, B)` (R170). -/
def padLen (n b : Nat) : Nat := b - n % b

/-- UNPAD's `p`, the last byte of its source (R171). -/
def State.unpadByte (s : State) : Nat := (s.byteAt (s.arg 0 + s.arg 1 - 1)).toNat

/-! ## The operand maps (R93) -/

/-- A command's input regions (R93), in the order of its rule. -/
def inputRegions (i : Instr) (s : State) : List Region :=
  match i with
  | .xor => [s.argRegion 0 1, s.argRegion 2 3]
  | .rxor => [s.argRegion 0 1, s.argRegion 2 3]
  | .hist => [s.argRegion 0 1]
  | .relfreq => [s.argRegion 0 1]
  | .bcoef => [s.argSized 0 tableLen, s.argSized 1 tableLen]
  | .score => [s.argRegion 0 1]
  | .ldref => [s.argSized 0 tableLen]
  | .xscore => [s.argRegion 0 1, s.argRegion 2 3]
  | .bestxor => s.descTable :: s.argRegion 2 3 :: s.descEntries
  | .sbxor => [s.argRegion 0 1]
  | .detect => s.descTable :: s.descEntries
  | .pad => [s.argRegion 0 1]
  | .unpad => [s.argRegion 0 1]
  | .cbcenc => [s.argRegion 0 1, s.argRegion 2 3, s.argRegion 4 5]
  | .cbcdec => [s.argRegion 0 1, s.argRegion 2 3, s.argRegion 4 5]

/-- A command's output region in the scratchpad (R93). BCOEF and SCORE have none, and LDREF's output is
REF. -/
def outputRegion (i : Instr) (s : State) : Option Region :=
  match i with
  | .xor => some (s.argRegion 4 1)
  | .rxor => some (s.argRegion 4 3)
  | .hist => some (s.argSized 2 histLen)
  | .relfreq => some (s.argSized 2 freqLen)
  | .bcoef => none
  | .score => none
  | .ldref => none
  | .xscore => some (s.argRegion 4 3)
  | .bestxor => some (s.argRegion 4 3)
  | .sbxor => some (s.argRegion 2 1)
  | .detect => some (s.argSized 2 (maxLen s.descEntries))
  | .pad => some (s.argSized 2 (s.arg 1 + padLen (s.arg 1) s.blkLen))
  | .unpad => some (s.argSized 2 (s.arg 1 - s.unpadByte))
  | .cbcenc => some (s.argSized 6 (s.arg 1 + padLen (s.arg 1) s.blkLen))
  | .cbcdec => some (s.argRegion 6 1)

/-- Whether the length of a command's output region exists: `L` needs a block size (R170, R184), `p` a
last byte that can be read and that is at most the length (R171), `M` at least one line of a table that
can be read (R154). The other lengths are operands or constants (log entry 17). -/
def outputDefined (i : Instr) (s : State) : Bool :=
  match i with
  | .xor => true
  | .rxor => true
  | .hist => true
  | .relfreq => true
  | .bcoef => true
  | .score => true
  | .ldref => true
  | .xscore => true
  | .bestxor => true
  | .sbxor => true
  | .detect => decide (0 < s.arg 1) && s.descTable.inRange s.bufSize
  | .pad => decide (0 < s.blkLen)
  | .unpad =>
    decide (0 < s.arg 1) && (s.argRegion 0 1).inRange s.bufSize && decide (s.unpadByte ≤ s.arg 1)
  | .cbcenc => decide (0 < s.blkLen)
  | .cbcdec => true

/-- The part of a region inside a scratchpad of `n` bytes (R38). -/
def Region.within (r : Region) (n : Nat) : Region :=
  { addr := min r.addr n, len := min (r.addr + r.len) n - r.addr }

/-! ## Checks on register values -/

/-- E_REF_UNLOADED unless SNAP.REF_VALID (R37). -/
def State.needRef (s : State) : Check := need s.snap.refValid .refUnloaded

/-- `e` unless `ARG[i]` is positive. -/
def State.needPos (s : State) (i : Fin 8) (e : ErrCode) : Check := need (decide (0 < s.arg i)) e

/-- E_BAD_BLKSZ unless BLKSZ is positive (R27). -/
def State.needBlk (s : State) : Check := need (decide (0 < s.blkLen)) .badBlksz

/-- InvalidIVLength unless the IV is one block long (R184, R185). -/
def State.needIv (s : State) : Check := need (decide (s.arg 5 = s.blkLen)) .invalidIVLength

/-! ## Each command's validation, in the order of its pseudocode -/

/-- R110. -/
def xorChecks (s : State) : List Check :=
  [need (decide (s.arg 1 = s.arg 3)) .lengthMismatch,
    s.needRange (s.argRegion 0 1), s.needRange (s.argRegion 2 3), s.needRange (s.argRegion 4 1)]
  ++ needDisjoint (s.argRegion 4 1) [s.argRegion 0 1, s.argRegion 2 3]

/-- R111. -/
def rxorChecks (s : State) : List Check :=
  [s.needPos 1 .emptyKey,
    s.needRange (s.argRegion 0 1), s.needRange (s.argRegion 2 3), s.needRange (s.argRegion 4 3)]
  ++ needDisjoint (s.argRegion 4 3) [s.argRegion 0 1, s.argRegion 2 3]

/-- R124. -/
def histChecks (s : State) : List Check :=
  [s.needRange (s.argRegion 0 1), s.needRange (s.argSized 2 histLen)]
  ++ needDisjoint (s.argSized 2 histLen) [s.argRegion 0 1]

/-- R125. -/
def relfreqChecks (s : State) : List Check :=
  [s.needPos 1 .emptyInput, s.needRange (s.argRegion 0 1), s.needRange (s.argSized 2 freqLen)]
  ++ needDisjoint (s.argSized 2 freqLen) [s.argRegion 0 1]

/-- R126. -/
def bcoefChecks (s : State) : List Check :=
  [s.needRange (s.argSized 0 tableLen), s.needRange (s.argSized 1 tableLen),
    need (s.tableOk (s.arg 0)) .badWeight, need (s.tableOk (s.arg 1)) .badWeight]

/-- R127. -/
def scoreChecks (s : State) : List Check :=
  [s.needPos 1 .emptyInput, s.needRef, s.needRange (s.argRegion 0 1)]

/-- R128. -/
def ldrefChecks (s : State) : List Check :=
  [s.needRange (s.argSized 0 tableLen), need (s.tableOk (s.arg 0)) .badWeight]

/-- R151. -/
def xscoreChecks (s : State) : List Check :=
  [s.needPos 1 .emptyKey, s.needPos 3 .emptyInput, s.needRef,
    s.needRange (s.argRegion 0 1), s.needRange (s.argRegion 2 3), s.needRange (s.argRegion 4 3)]
  ++ needDisjoint (s.argRegion 4 3) [s.argRegion 0 1, s.argRegion 2 3]

/-- The checks on one descriptor entry: range before emptiness (R152, R154, R204). -/
def State.entryChecks (s : State) (e : ErrCode) (r : Region) : List Check :=
  [s.needRange r, need (decide (0 < r.len)) e]

/-- R152. -/
def bestxorChecks (s : State) : List Check :=
  [s.needPos 1 .emptyInput, s.needPos 3 .emptyInput, s.needRef,
    s.needRange s.descTable, s.needRange (s.argRegion 2 3), s.needRange (s.argRegion 4 3)]
  ++ s.descEntries.flatMap (s.entryChecks .emptyKey)
  ++ needDisjoint (s.argRegion 4 3) (s.descTable :: s.argRegion 2 3 :: s.descEntries)

/-- R153. -/
def sbxorChecks (s : State) : List Check :=
  [s.needPos 1 .emptyInput, s.needRef, s.needRange (s.argRegion 0 1), s.needRange (s.argRegion 2 1)]
  ++ needDisjoint (s.argRegion 2 1) [s.argRegion 0 1]

/-- R154. -/
def detectChecks (s : State) : List Check :=
  [s.needPos 1 .emptyInput, s.needRef, s.needRange s.descTable]
  ++ s.descEntries.flatMap (s.entryChecks .emptyInput)
  ++ [s.needRange (s.argSized 2 (maxLen s.descEntries))]
  ++ needDisjoint (s.argSized 2 (maxLen s.descEntries)) (s.descTable :: s.descEntries)

/-- R170. -/
def padChecks (s : State) : List Check :=
  [s.needBlk, s.needRange (s.argRegion 0 1),
    s.needRange (s.argSized 2 (s.arg 1 + padLen (s.arg 1) s.blkLen))]
  ++ needDisjoint (s.argSized 2 (s.arg 1 + padLen (s.arg 1) s.blkLen)) [s.argRegion 0 1]

/-- R171. -/
def unpadChecks (s : State) : List Check :=
  [s.needPos 1 .unpadRange, s.needRange (s.argRegion 0 1),
    need (decide (s.unpadByte ≤ s.arg 1)) .unpadRange,
    s.needRange (s.argSized 2 (s.arg 1 - s.unpadByte))]
  ++ needDisjoint (s.argSized 2 (s.arg 1 - s.unpadByte)) [s.argRegion 0 1]

/-- R184. -/
def cbcencChecks (s : State) : List Check :=
  [s.needBlk, s.needIv,
    s.needRange (s.argRegion 0 1), s.needRange (s.argRegion 2 3), s.needRange (s.argRegion 4 5),
    s.needRange (s.argSized 6 (s.arg 1 + padLen (s.arg 1) s.blkLen))]
  ++ needDisjoint (s.argSized 6 (s.arg 1 + padLen (s.arg 1) s.blkLen))
    [s.argRegion 0 1, s.argRegion 2 3, s.argRegion 4 5]

/-- R185. -/
def cbcdecChecks (s : State) : List Check :=
  [s.needBlk, s.needIv,
    need (decide (s.arg 1 % s.blkLen = 0)) .invalidCiphertextLength,
    s.needPos 1 .unpadRange,
    s.needRange (s.argRegion 0 1), s.needRange (s.argRegion 2 3), s.needRange (s.argRegion 4 5),
    s.needRange (s.argRegion 6 1)]
  ++ needDisjoint (s.argRegion 6 1) [s.argRegion 0 1, s.argRegion 2 3, s.argRegion 4 5]

/-- The validation checks of a command (R202, R204). -/
def validation (i : Instr) (s : State) : List Check :=
  match i with
  | .xor => xorChecks s
  | .rxor => rxorChecks s
  | .hist => histChecks s
  | .relfreq => relfreqChecks s
  | .bcoef => bcoefChecks s
  | .score => scoreChecks s
  | .ldref => ldrefChecks s
  | .xscore => xscoreChecks s
  | .bestxor => bestxorChecks s
  | .sbxor => sbxorChecks s
  | .detect => detectChecks s
  | .pad => padChecks s
  | .unpad => unpadChecks s
  | .cbcenc => cbcencChecks s
  | .cbcdec => cbcdecChecks s

end Sys2Proof.Machine
end

