-- ==== Sys2Proof/Machine/BlockPadding.lean ====
section
/-! DEFINITION. The BlockPadding commands PAD and UNPAD (R170, R171). -/

namespace Sys2Proof.Machine

/-- `pad(M, B)` (R170). -/
def padBytes (m : List Byte) (b : Nat) : List Byte :=
  m ++ List.replicate (padLen m.length b) (BitVec.ofNat 8 (padLen m.length b))

/-- `unpad(D)` (R171): truncated by the value of its last byte, which is not validated. -/
def unpadBytes (d : List Byte) : List Byte := d.take (d.length - (d.getLastD 0).toNat)

/-- PAD past its checks (R170). -/
def padBody (s : State) : State :=
  ((s.memWrite (s.arg 2) (padBytes (s.readRegion (s.argRegion 0 1)) s.blkLen)).setResLen
    (s.arg 1 + padLen (s.arg 1) s.blkLen)).finish

/-- PAD: PKCS#7 padding (R170). -/
def execPad (s : State) : Host.Outcome State Fault Refusal :=
  .next (s.guarded (padChecks s) (padBody s))

/-- UNPAD past its checks (R171). -/
def unpadBody (s : State) : State :=
  ((s.memWrite (s.arg 2) (unpadBytes (s.readRegion (s.argRegion 0 1)))).setResLen
    (s.arg 1 - s.unpadByte)).finish

/-- UNPAD: removal of padding without validation (R171). -/
def execUnpad (s : State) : Host.Outcome State Fault Refusal :=
  .next (s.guarded (unpadChecks s) (unpadBody s))

end Sys2Proof.Machine
end

