-- ==== Sys2Proof/Machine/ByteOps.lean ====
section
/-! DEFINITION. The ByteOps commands XOR and RXOR (R110, R111). -/

namespace Sys2Proof.Machine

/-- XOR past its checks (R110). -/
def xorBody (s : State) : State :=
  ((s.memWrite (s.arg 4)
    (xorBytes (s.readRegion (s.argRegion 0 1)) (s.readRegion (s.argRegion 2 3)))).setResLen
      (s.arg 1)).finish

/-- XOR: fixed XOR (R110). -/
def execXor (s : State) : Host.Outcome State Fault Refusal :=
  .next (s.guarded (xorChecks s) (xorBody s))

/-- RXOR past its checks (R111). -/
def rxorBody (s : State) : State :=
  ((s.memWrite (s.arg 4)
    (rxorBytes (s.readRegion (s.argRegion 0 1)) (s.readRegion (s.argRegion 2 3)))).setResLen
      (s.arg 3)).finish

/-- RXOR: repeating-key XOR (R111). -/
def execRxor (s : State) : Host.Outcome State Fault Refusal :=
  .next (s.guarded (rxorChecks s) (rxorBody s))

end Sys2Proof.Machine
end

