-- ==== Sys2Proof/Machine/CbcCodec.lean ====
section
/-! DEFINITION. The CBCCodec commands CBCENC and CBCDEC (R184, R185). The engine runs from one oracle
request to the next, so a command takes one engine step before its first request and one after each
answer (R182, R188). -/

namespace Sys2Proof.Machine

/-- CBCENC's request for block `l.block`: the block XOR the chaining block (R184). -/
def State.encRequest (s : State) (l : CbcLocals) : State :=
  s.ecbRequest .enc l (xorBytes (blk l.data s.blkLen l.block) l.prev)

/-- CBCENC past its checks: DIRTY, the locals and the first request (R184). -/
def cbcencStart (s : State) : State :=
  let q := padBytes (s.readRegion (s.argRegion 0 1)) s.blkLen
  ({ s with dirty := outputRegion .cbcenc s }).encRequest
    { data := q, key := s.readRegion (s.argRegion 2 3), prev := s.readRegion (s.argRegion 4 5),
      block := 0 }

/-- CBCENC after the answer `c` for block `l.block`: the write, then the next request or the end
(R184). -/
def cbcencNext (s : State) (l : CbcLocals) (c : List Byte) : State :=
  let t := s.memWrite (s.arg 6 + l.block * s.blkLen) c
  if (l.block + 1) * s.blkLen < l.data.length then
    t.encRequest { l with prev := c, block := l.block + 1 }
  else (t.setResLen l.data.length).finish

/-- EcbPrimitiveFailure: every byte of the output region becomes unspecified (R207 b). -/
def State.ecbFailed (s : State) (l : CbcLocals) : State :=
  (s.scramble (s.argSized 6 l.data.length)).raiseError .ecbPrimitiveFailure

/-- CBCENC: CBC encryption (R184), from where its progress stands. While the oracle has not answered
the engine takes no step (R182). -/
def execCbcenc (s : State) : Host.Outcome State Fault Refusal :=
  .next (match s.progress with
    | .fresh => s.guarded (cbcencChecks s) (cbcencStart s)
    | .waiting _ => s
    | .answered l (.ok c) => cbcencNext s l c
    | .answered l .fail => s.ecbFailed l)

/-- CBCDEC's request for block `l.block` (R185). -/
def State.decRequest (s : State) (l : CbcLocals) : State :=
  s.ecbRequest .dec l (blk l.data s.blkLen l.block)

/-- CBCDEC past its checks: DIRTY, the locals and the first request (R185). -/
def cbcdecStart (s : State) : State :=
  ({ s with dirty := outputRegion .cbcdec s }).decRequest
    { data := s.readRegion (s.argRegion 0 1), key := s.readRegion (s.argRegion 2 3),
      prev := s.readRegion (s.argRegion 4 5), block := 0 }

/-- CBCDEC's end (R185): the last decrypted byte against the length, then RES_LEN. The decrypted bytes
stay in dst in either case (R207 c). -/
def cbcdecEnd (s : State) (n : Nat) : State :=
  let p := (s.byteAt (s.arg 6 + n - 1)).toNat
  if n < p then s.raiseError .unpadRange else (s.setResLen (n - p)).finish

/-- CBCDEC after the answer `y` for block `l.block` (R185). -/
def cbcdecNext (s : State) (l : CbcLocals) (y : List Byte) : State :=
  let t := s.memWrite (s.arg 6 + l.block * s.blkLen) (xorBytes y l.prev)
  if (l.block + 1) * s.blkLen < l.data.length then
    t.decRequest { l with prev := blk l.data s.blkLen l.block, block := l.block + 1 }
  else cbcdecEnd t l.data.length

/-- CBCDEC: CBC decryption (R185), from where its progress stands. -/
def execCbcdec (s : State) : Host.Outcome State Fault Refusal :=
  .next (match s.progress with
    | .fresh => s.guarded (cbcdecChecks s) (cbcdecStart s)
    | .waiting _ => s
    | .answered l (.ok y) => cbcdecNext s l y
    | .answered l .fail => s.ecbFailed l)

end Sys2Proof.Machine
end

