-- ==== Sys2Proof/Machine/LanguageModel.lean ====
section
/-! DEFINITION. The LanguageModel commands HIST, RELFREQ, BCOEF, SCORE, LDREF (R124 to R128). -/

namespace Sys2Proof.Machine

/-- The text operand `(ARG0, ARG1)`. -/
def State.text (s : State) : List Byte := s.readRegion (s.argRegion 0 1)

/-- `tot`, the number of symbols of the text operand (R124). -/
def State.symbolTotal (s : State) : Nat := (syms s.text s.snap.sym).length

/-- HIST past its checks (R124). -/
def histBody (s : State) : State :=
  ((s.memWrite (s.arg 2) (histBlock s.text s.snap.sym)).setResLen s.symbolTotal).finish

/-- HIST: the frequency histogram (R124). -/
def execHist (s : State) : Host.Outcome State Fault Refusal :=
  .next (s.guarded (histChecks s) (histBody s))

/-- RELFREQ past its checks (R125). -/
def relfreqBody (s : State) : State :=
  ((s.memWrite (s.arg 2) (freqBlock s.text s.snap.sym)).setResLen s.symbolTotal).finish

/-- RELFREQ: relative frequencies (R125). -/
def execRelfreq (s : State) : Host.Outcome State Fault Refusal :=
  .next (s.guarded (relfreqChecks s) (relfreqBody s))

/-- BCOEF past its checks (R126). -/
def bcoefBody (s : State) : State :=
  (s.setResScore (bcoef (s.tableAt (s.arg 0)) (s.tableAt (s.arg 1)))).finish

/-- BCOEF: the Bhattacharyya coefficient of two tables (R126). -/
def execBcoef (s : State) : Host.Outcome State Fault Refusal :=
  .next (s.guarded (bcoefChecks s) (bcoefBody s))

/-- SCORE past its checks (R127). -/
def scoreBody (s : State) : State :=
  ((s.setResScore (escore s.text s.snap.sym s.snapRef)).setResLen s.symbolTotal).finish

/-- SCORE: the score of a text against REF (R127). -/
def execScore (s : State) : Host.Outcome State Fault Refusal :=
  .next (s.guarded (scoreChecks s) (scoreBody s))

/-- LDREF past its checks (R128). -/
def ldrefBody (s : State) : State := (s.loadRef (s.tableAt (s.arg 0))).finish

/-- LDREF: the load of the reference table (R128). -/
def execLdref (s : State) : Host.Outcome State Fault Refusal :=
  .next (s.guarded (ldrefChecks s) (ldrefBody s))

end Sys2Proof.Machine
end

