-- ==== Sys2Proof/Machine/XorBreaker.lean ====
section
/-! DEFINITION. The XorBreaker commands XSCORE, BESTXOR, SBXOR, DETECT (R151 to R154). -/

namespace Sys2Proof.Machine

/-- XSCORE past its checks (R151). -/
def xscoreBody (s : State) : State :=
  let p := rxorBytes (s.readRegion (s.argRegion 0 1)) (s.readRegion (s.argRegion 2 3))
  (((s.memWrite (s.arg 4) p).setResScore (escore p s.snap.sym s.snapRef)).setResLen
    (s.arg 3)).finish

/-- XSCORE: the score of one candidate key (R151). -/
def execXscore (s : State) : Host.Outcome State Fault Refusal :=
  .next (s.guarded (xscoreChecks s) (xscoreBody s))

/-- The candidate plaintexts of BESTXOR, in table order (R152). -/
def State.candidatePlains (s : State) : List (List Byte) :=
  s.descEntries.map (fun r => rxorBytes (s.readRegion r) (s.readRegion (s.argRegion 2 3)))

/-- BESTXOR past its checks (R152). RES_KEY is not written. -/
def bestxorBody (s : State) : State :=
  let plains := s.candidatePlains
  let scores := plains.map (fun p => escore p s.snap.sym s.snapRef)
  let best := firstMax scores
  ((((s.memWrite (s.arg 4) (plains.getD best [])).setResIdx best).setResScore
    (scores.getD best 0)).setResLen (s.arg 3)).finish

/-- BESTXOR: the best of a list of candidate keys (R152). -/
def execBestxor (s : State) : Host.Outcome State Fault Refusal :=
  .next (s.guarded (bestxorChecks s) (bestxorBody s))

/-- SBXOR past its checks (R153). -/
def sbxorBody (s : State) : State :=
  let r := sbsearch (s.readRegion (s.argRegion 0 1)) s.snap.sym s.snapRef
  ((((s.memWrite (s.arg 2) r.plain).setResKey r.key).setResScore r.score).setResLen
    (s.arg 1)).finish

/-- SBXOR: the single-byte key search (R153). -/
def execSbxor (s : State) : Host.Outcome State Fault Refusal :=
  .next (s.guarded (sbxorChecks s) (sbxorBody s))

/-- The search results of DETECT, line by line (R154). -/
def State.lineResults (s : State) : List SearchResult :=
  s.descEntries.map (fun r => sbsearch (s.readRegion r) s.snap.sym s.snapRef)

/-- DETECT past its checks (R154). Only the winner's bytes are written. -/
def detectBody (s : State) : State :=
  let rs := s.lineResults
  let best := firstMax (rs.map (fun r => r.score))
  let w := rs.getD best { key := 0, score := 0, plain := [] }
  (((((s.memWrite (s.arg 2) w.plain).setResIdx best).setResKey w.key).setResScore
    w.score).setResLen w.plain.length).finish

/-- DETECT: the line that was single-byte-XOR encrypted (R154). -/
def execDetect (s : State) : Host.Outcome State Fault Refusal :=
  .next (s.guarded (detectChecks s) (detectBody s))

end Sys2Proof.Machine
end

