-- ==== Sys2Proof/Machine/Dispatch.lean ====
section
/-! DEFINITION. The meaning of every command, one arm each. -/

namespace Sys2Proof.Machine

def exec (i : Instr) (s : State) : Host.Outcome State Fault Refusal :=
  match i with
  | .xor => Sys2Proof.Machine.execXor s
  | .rxor => Sys2Proof.Machine.execRxor s
  | .hist => Sys2Proof.Machine.execHist s
  | .relfreq => Sys2Proof.Machine.execRelfreq s
  | .bcoef => Sys2Proof.Machine.execBcoef s
  | .score => Sys2Proof.Machine.execScore s
  | .ldref => Sys2Proof.Machine.execLdref s
  | .xscore => Sys2Proof.Machine.execXscore s
  | .bestxor => Sys2Proof.Machine.execBestxor s
  | .sbxor => Sys2Proof.Machine.execSbxor s
  | .detect => Sys2Proof.Machine.execDetect s
  | .pad => Sys2Proof.Machine.execPad s
  | .unpad => Sys2Proof.Machine.execUnpad s
  | .cbcenc => Sys2Proof.Machine.execCbcenc s
  | .cbcdec => Sys2Proof.Machine.execCbcdec s

end Sys2Proof.Machine
end

