-- ==== Sys2Proof/Machine/Engine.lean ====
section
/-! DEFINITION. The engine's step (R39, R204): it decodes SNAP.CMD and runs the command. -/

namespace Sys2Proof.Machine

/-- The engine's fetch: the decoder on SNAP.CMD (R96, R204). -/
def State.fetch (s : State) : Except DecodeError Instr := decode s.snap.cmd

/-- The engine, when it runs: an illegal CMD completes with E_ILLEGAL_CMD (R95, R204); any other word
runs its command. -/
def runFetched (s : State) : Host.Outcome State Fault Refusal :=
  match s.fetch with
  | .error _ => .next (s.raiseError .illegalCmd)
  | .ok i => exec i s

/-- One turn of the engine (R39): IDLE and WAIT_ECB take no step. -/
def engineStep (s : State) : Host.Outcome State Fault Refusal :=
  match s.engine with
  | .idle => .next s
  | .waitEcb => .next s
  | .run => runFetched s

end Sys2Proof.Machine
end

