-- ==== Sys2Proof/Machine/Flags.lean ====
section
/-! DEFINITION. The STATUS word (R25) and the interrupt output (R212): XCS has no condition codes
(R41). -/

namespace Sys2Proof.Machine

/-- A flag as a number. -/
def bit (b : Bool) : Nat := if b then 1 else 0

/-- STATUS.ECBWAIT (R39 a). -/
def State.ecbWait (s : State) : Bool := decide (s.engine = .waitEcb)

/-- The STATUS word (R25): BUSY, DONE, ERR, ECBWAIT in bits 0 to 3, ERRCODE in bits 15:8. -/
def State.statusWord (s : State) : Word :=
  BitVec.ofNat 32
    (bit s.busy + 2 * bit s.done + 4 * bit s.err + 8 * bit s.ecbWait + 256 * s.errCode.toNat)

/-- The interrupt output IRQ = INTEN.IE AND STATUS.DONE (R212). -/
def State.irq (s : State) : Bool := s.ie && s.done

end Sys2Proof.Machine
end

