-- ==== Sys2Proof/Machine/HostPort.lean ====
section
/-! DEFINITION. The host port: START (R30), SRST (R241), power-on reset (R240), and the host's reads and
writes of registers and scratchpad (R21 to R36, R63 to R68). -/

namespace Sys2Proof.Machine

/-! ## START and the resets -/

/-- The snapshot that START takes (R30). -/
def State.capture (s : State) : Snapshot where
  cmd := s.cmd
  args := s.args
  blksz := s.blksz
  sym := s.sym
  ref := s.ref
  refValid := s.refValid

/-- The bytes of the scratchpad in the output region of the command in the snapshot (R39 d, R93), also of
one whose checks will fail (R71, R245); none where there is no such region (log entry 17). -/
def State.runningOutput (s : State) : Option Region :=
  match s.fetch with
  | .error _ => none
  | .ok i =>
    if outputDefined i s then (outputRegion i s).map (fun r => r.within s.bufSize) else none

/-- START (R30): the snapshot; DONE, ERR, ERRCODE and the result registers cleared; ENGINE becomes RUN. -/
def State.startBase (s : State) : State :=
  { s with
    snap := s.capture, done := false, err := false, errCode := 0, resLen := 0, resKey := 0,
    resIdx := 0, resScore := 0, engine := .run, pend := none, progress := .fresh }

/-- START with DIRTY: from here on a read of the running command's output region is unspecified
(R39 d, R68, R245). -/
def State.start (s : State) : State := { s.startBase with dirty := s.startBase.runningOutput }

/-- SRST's effect on SP (R241 c): a running command's DIRTY region becomes unspecified. -/
def State.abort (s : State) : State :=
  match s.dirty with
  | some r => if s.busy then s.scramble r else s
  | none => s

/-- The registers at their power-on values and the engine idle (R240, R241 a, d, e). -/
def State.clearRegisters (s : State) : State :=
  { s with
    sym := false, done := false, err := false, errCode := 0, ie := false, cmd := 0, blksz := 16,
    args := Vector.replicate 8 0, resLen := 0, resKey := 0, resIdx := 0, resScore := 0,
    refValid := false, engine := .idle, snap := Snapshot.none, pend := none, dirty := none,
    progress := .fresh }

/-- SRST (R241): REF and SP keep their contents but for the DIRTY region of a running command. -/
def State.softReset (s : State) : State := s.abort.clearRegisters

/-- Power-on reset (R240): as `clearRegisters`, and SP and REF become unspecified. -/
def State.powerOn (s : State) : State :=
  { s.clearRegisters with
    sp := { cells := [] }, ref := refAfterPowerOn (s.epoch + 1), hostResp := none,
    epoch := s.epoch + 1 }

/-! ## The register block (R21) -/

/-- The registers below offset 0x020. -/
def lowRegAt : Nat → Reg
  | 0x000 => .id
  | 0x004 => .cfg
  | 0x008 => .ctrl
  | 0x00C => .status
  | 0x010 => .inten
  | 0x014 => .cmd
  | 0x018 => .blksz
  | _ => .reserved

/-- The registers from offset 0x040 to 0x7FC. -/
def highRegAt : Nat → Reg
  | 0x040 => .resLen
  | 0x044 => .resKey
  | 0x048 => .resIdx
  | 0x050 => .resScoreLo
  | 0x054 => .resScoreHi
  | 0x058 => .refValid
  | 0x05C => .bufSize
  | _ => .reserved

/-- The register at an aligned offset below 0x1000 (R21, R29, R35, R36). -/
def regAt (off : Nat) : Reg :=
  if off < 0x020 then lowRegAt off
  else if off < 0x040 then .arg (Fin.ofNat 8 ((off - 0x020) / 4))
  else if off < 0x800 then highRegAt off
  else .refWord (Fin.ofNat 256 ((off - 0x800) / 8)) (decide (off % 8 = 4))

/-- Bits [31:0] or [63:32] of a binary64 encoding (R32, R36). -/
def halfOf (x : F64) (hi : Bool) : Word := if hi then x.extractLsb' 32 32 else x.extractLsb' 0 32

/-- The value a register reads (R22 to R36). Register reads have no side effects (R72). -/
def State.readReg (s : State) : Reg → Word
  | .id => 0x4D584331
  | .cfg => BitVec.ofNat 32 (bit s.sym)
  | .ctrl => 0
  | .status => s.statusWord
  | .inten => BitVec.ofNat 32 (bit s.ie)
  | .cmd => s.cmd
  | .blksz => s.blksz.setWidth 32
  | .arg i => s.args.get i
  | .resLen => s.resLen
  | .resKey => s.resKey.setWidth 32
  | .resIdx => s.resIdx
  | .resScoreLo => halfOf s.resScore false
  | .resScoreHi => halfOf s.resScore true
  | .refValid => BitVec.ofNat 32 (bit s.refValid)
  | .bufSize => BitVec.ofNat 32 s.bufSize
  | .reserved => 0
  | .refWord i hi => halfOf (s.ref.get i) hi

/-- The effect of a write that BUSY blocks (R67). -/
def State.unlessBusy (s : State) (t : State) : State := if s.busy then s else t

/-- A write to CTRL (R24): SRST wins over START, and START is ignored while BUSY. -/
def State.writeCtrl (s : State) (v : Word) : State :=
  if v.getLsbD 1 then s.softReset
  else if v.getLsbD 0 then s.unlessBusy s.start
  else s

/-- The effect of a write to a register (R22 to R36, R67). -/
def State.writeReg (s : State) (v : Word) : Reg → State
  | .cfg => s.unlessBusy { s with sym := v.getLsbD 0 }
  | .ctrl => s.writeCtrl v
  | .status => s.unlessBusy (if v.getLsbD 1 then s.clearDone else s)
  | .inten => { s with ie := v.getLsbD 0 }
  | .cmd => s.unlessBusy { s with cmd := v }
  | .blksz => s.unlessBusy { s with blksz := v.setWidth 8 }
  | .arg i => s.unlessBusy { s with args := s.args.set i v }
  | .id => s
  | .resLen => s
  | .resKey => s
  | .resIdx => s
  | .resScoreLo => s
  | .resScoreHi => s
  | .refValid => s
  | .bufSize => s
  | .reserved => s
  | .refWord _ _ => s

/-! ## Host accesses (R63 to R66) -/

/-- The width of an access in bytes. -/
def Width.bytes : Width → Nat
  | .byte => 1
  | .half => 2
  | .word => 4

/-- The offset of the scratchpad in the host space (R64). -/
def spOffset : Nat := 0x10000

/-- What an access addresses (R64, R65). -/
inductive Target where
  | reg (r : Reg)
  | sp (a : Nat)
  | none
deriving DecidableEq, Repr

/-- The target of an access of `n` bytes at offset `off`; `none` gets BUSERR (R63 to R65). -/
def State.target (s : State) (off n : Nat) : Target :=
  if off < 0x1000 then (if n = 4 ∧ off % 4 = 0 then .reg (regAt off) else .none)
  else if off < spOffset then .none
  else if (off - spOffset) % n = 0 ∧ off - spOffset + n ≤ s.bufSize then .sp (off - spOffset)
  else .none

/-- Whether a host read of `SP[a]` is unspecified (R68). -/
def State.isDirty (s : State) (a : Nat) : Bool :=
  s.busy && (match s.dirty with
    | some r => decide (r.addr ≤ a ∧ a < r.addr + r.len)
    | none => false)

/-- The byte that a host read sees at `SP[a + i]`: a fresh free draw inside DIRTY (R68, S3). -/
def State.hostByte (s : State) (a i : Nat) : Byte :=
  if s.isDirty (a + i) then Config.freeByte (s.draws + i) else s.byteAt (a + i)

/-- A host read of `n` bytes of the scratchpad at `a` (R65, R68). While BUSY the draws move on, so that
no two reads share one. -/
def State.hostReadSp (s : State) (a n : Nat) : State :=
  { s with
    hostResp := some (.value (BitVec.ofNat 32 (leNat ((List.range n).map (s.hostByte a))))),
    draws := if s.busy then s.draws + n else s.draws }

/-- `HostRead(off, w)` (R66). -/
def hostRead (off : Word) (w : Width) (s : State) : State :=
  match s.target off.toNat w.bytes with
  | .reg r => { s with hostResp := some (.value (s.readReg r)) }
  | .sp a => s.hostReadSp a w.bytes
  | .none => { s with hostResp := some .busErr }

/-- `HostWrite(off, w, v)` (R66). A write to the scratchpad while BUSY is discarded (R68). -/
def hostWrite (off : Word) (w : Width) (v : Word) (s : State) : State :=
  match s.target off.toNat w.bytes with
  | .reg r => { s.writeReg v r with hostResp := some .ok }
  | .sp a => { s.unlessBusy (s.memWrite a (leBytes w.bytes v.toNat)) with hostResp := some .ok }
  | .none => { s with hostResp := some .busErr }

end Sys2Proof.Machine
end

