-- ==== Sys2Proof/Machine/Environment.lean ====
section
/-! DEFINITION. What each input does (R3, R78, R205): host accesses, the host's polling loop, the
engine's turn, the oracle's answer, power-on reset. -/

namespace Sys2Proof.Machine

/-- Whether an input is a move of an agent other than the host. -/
def Input.ofOthers : Input → Bool
  | .hostRead _ _ => false
  | .hostWrite _ _ _ => false
  | .hostWait => false
  | .engine => true
  | .oracle _ _ => true
  | .powerOn => true

/-- The inputs after a poll that read DONE = 0: the next move of another agent, or else a turn of the
engine, comes before the next poll. -/
def afterPoll : List Input → List Input
  | [] => [.engine, .hostWait]
  | e :: rest => if e.ofOthers then e :: .hostWait :: rest else .engine :: .hostWait :: e :: rest

/-- One turn of the loop `wait` (R98): HostRead(0x00C, 4) until DONE reads 1. -/
def hostPoll (s : State) : State :=
  let t := hostRead 0x00C .word s
  if s.done then t else { t with inputs := afterPoll t.inputs }

/-- An answer to the outstanding request (R181, R182): it reaches the engine. R181 cannot express a block
of another length. -/
def deliverAnswer (a : EcbAnswer) (s : State) : Host.Outcome State Fault Refusal :=
  match a with
  | .fail => .next (s.ecbAnswer a)
  | .ok y => if y.length = s.blkLen then .next (s.ecbAnswer a) else .fault .oracleAnswerShape

/-- The oracle's answer to request number `n` (R182). An answer to a request that is not outstanding is
discarded: one that SRST or power-on reset has abandoned (R205 b, R241 d), also where the engine waits
for a later request. That a number tells the two apart is the model's choice (DESIGN CHOICE, log entry
29). -/
def oracleStep (n : Nat) (a : EcbAnswer) (s : State) : Host.Outcome State Fault Refusal :=
  match s.engine with
  | .idle => .next s
  | .run => .next s
  | .waitEcb => if n = s.issued then deliverAnswer a s else .next s

/-- What an input does. -/
def inputStep (e : Input) (s : State) : Host.Outcome State Fault Refusal :=
  match e with
  | .hostRead off w => .next (hostRead off w s)
  | .hostWrite off w v => .next (hostWrite off w v s)
  | .hostWait => .next (hostPoll s)
  | .engine => engineStep s
  | .oracle n a => oracleStep n a s
  | .powerOn => .next s.powerOn

end Sys2Proof.Machine
end

