-- ==== Sys2Proof/Machine/Step.lean ====
section
/-! DEFINITION. The machine's step: the next input, or a turn of the engine where there is none. -/

namespace Sys2Proof.Machine

/-- One event of the interleaving of R78. -/
def step (s : State) : Host.Outcome State Fault Refusal :=
  match s.inputs with
  | [] => engineStep s
  | e :: rest => inputStep e { s with inputs := rest }

/-- `s` after the host has written the word to CMD and START to CTRL, with the engine idle before and
the engine's turn next. -/
def State.withFetchWord (s : State) (nbits w : Nat) : State :=
  { State.start { s with cmd := tableWord nbits w } with inputs := .engine :: s.inputs }

end Sys2Proof.Machine
end

