-- ==== Sys2Proof/Machine/Assembler.lean ====
section
/-! DEFINITION. The assembly language of host programs (R97 to R99), as abstract syntax, and its
expansion to host transactions. -/

namespace Sys2Proof.Machine

/-- A statement of a host program (R97, R98). -/
inductive AsmStmt where
  /-- A command statement: the mnemonic and its operands in ARG order. -/
  | command (i : Instr) (vs : List Nat)
  | wait
  | setblk (n : Nat)
  | setsym (m : Nat)
  | clrdone
  | srst
  | ien
  | idis
  | sb (a v : Nat)
  | sw (a v : Nat)
  | bytes (a : Nat) (bs : List Byte)
  | rd (r : Reg)
  | fill (a n v : Nat)
  | wreg (off v : Nat)
deriving DecidableEq, Repr

/-- An offset as a word. One that no word holds is unmapped, and so is the greatest word that stands for
it (R64). -/
def offsetWord (off : Nat) : Word := BitVec.ofNat 32 (min off 0xFFFFFFFF)

/-- The host write of `v` at `off`. -/
def hostW (off : Nat) (w : Width) (v : Nat) : Input :=
  .hostWrite (offsetWord off) w (BitVec.ofNat 32 v)

/-- The host read at `off`. -/
def hostR (off : Nat) (w : Width) : Input := .hostRead (offsetWord off) w

/-- The offset of a register (R21). The reserved offsets are represented by 0x01C. -/
def regOffset : Reg → Nat
  | .id => 0x000
  | .cfg => 0x004
  | .ctrl => 0x008
  | .status => 0x00C
  | .inten => 0x010
  | .cmd => 0x014
  | .blksz => 0x018
  | .arg i => 0x020 + 4 * i.val
  | .resLen => 0x040
  | .resKey => 0x044
  | .resIdx => 0x048
  | .resScoreLo => 0x050
  | .resScoreHi => 0x054
  | .refValid => 0x058
  | .bufSize => 0x05C
  | .reserved => 0x01C
  | .refWord i hi => 0x800 + 8 * i.val + (if hi then 4 else 0)

/-- The writes of the operands to ARG0, ARG1, … (R97, step 1), from ARG`i` on. -/
def argWrites : Nat → List Nat → List Input
  | _, [] => []
  | i, v :: vs => hostW (0x020 + 4 * i) .word v :: argWrites (i + 1) vs

/-- One byte store per byte, in ascending address order. -/
def byteWrites : Nat → List Byte → List Input
  | _, [] => []
  | a, b :: bs => hostW (spOffset + a) .byte b.toNat :: byteWrites (a + 1) bs

/-- `fill` (R98): one byte store of `v` per byte, in ascending address order. -/
def fillWrites (v : Nat) : Nat → Nat → List Input
  | _, 0 => []
  | a, n + 1 => hostW (spOffset + a) .byte v :: fillWrites v (a + 1) n

/-- A register offset: one of R21's table, an aligned word below 0x1000 (R63). -/
def isRegOffset (off : Nat) : Bool := decide (off < 0x1000 ∧ off % 4 = 0)

/-- The expansion of a statement (R97, R98); `none` is an assembly error. -/
def AsmStmt.expand : AsmStmt → Option (List Input)
  | .command i vs =>
    if operandsWellFormed i vs then
      some (argWrites 0 vs
        ++ [hostW 0x014 .word (encode i).toNat, hostW 0x008 .word 1, .hostWait])
    else none
  | .wait => some [.hostWait]
  | .setblk n => if 1 ≤ n ∧ n ≤ 255 then some [hostW 0x018 .word n] else none
  | .setsym m => if m ≤ 1 then some [hostW 0x004 .word m] else none
  | .clrdone => some [hostW 0x00C .word 2]
  | .srst => some [hostW 0x008 .word 2]
  | .ien => some [hostW 0x010 .word 1]
  | .idis => some [hostW 0x010 .word 0]
  | .sb a v => some [hostW (spOffset + a) .byte v]
  | .sw a v => if a % 4 = 0 then some [hostW (spOffset + a) .word v] else none
  | .bytes a bs => some (byteWrites a bs)
  | .rd r => some [hostR (regOffset r) .word]
  | .fill a n v => some (fillWrites v a n)
  | .wreg off v => if isRegOffset off then some [hostW off .word v] else none

/-- The encoding of a program (R99): the transactions of its statements, in order. -/
def assemble : List AsmStmt → Option (List Input)
  | [] => some []
  | p :: ps =>
    match p.expand, assemble ps with
    | some xs, some ys => some (xs ++ ys)
    | _, _ => none

end Sys2Proof.Machine
end

