-- ==== Sys2Proof/Machine/CbcFunctions.lean ====
section
/-! DEFINITION. CBC encryption and decryption as functions of byte sequences (R184, R185), for an
oracle that answers with a function of the block. The commands do not use them: they are what the runs
of CBCENC and CBCDEC are compared with. -/

namespace Sys2Proof.Machine

/-- The blocks of a sequence, in order (R183). -/
def blocksOf (s : List Byte) (b : Nat) : List (List Byte) :=
  (List.range (s.length / b)).map (fun i => blk s b i)

/-- The fold of CBCENC over blocks: `c[i] = E(block[i] XOR c[i-1])` (R184). -/
def cbcFoldEnc (enc : List Byte → List Byte) : List Byte → List (List Byte) → List Byte
  | _, [] => []
  | prev, x :: xs => enc (xorBytes x prev) ++ cbcFoldEnc enc (enc (xorBytes x prev)) xs

/-- The fold of CBCDEC over blocks: `p[i] = D(c[i]) XOR c[i-1]` (R185). -/
def cbcFoldDec (dec : List Byte → List Byte) : List Byte → List (List Byte) → List Byte
  | _, [] => []
  | prev, c :: cs => xorBytes (dec c) prev ++ cbcFoldDec dec c cs

/-- `encrypt(plaintext, key, iv)` (R184). -/
def cbcEncrypt (enc : List Byte → List Byte) (b : Nat) (iv m : List Byte) : List Byte :=
  cbcFoldEnc enc iv (blocksOf (padBytes m b) b)

/-- All the decrypted bytes, padding included (R185). -/
def cbcDecryptRaw (dec : List Byte → List Byte) (b : Nat) (iv c : List Byte) : List Byte :=
  cbcFoldDec dec iv (blocksOf c b)

end Sys2Proof.Machine
end

