-- ==== Sys2Proof/Safety.lean ====
section
/-! DEFINITION. What the statements are made of: outcomes of a command, frames, the invariant of every
step, and runs of the engine against an oracle. -/

namespace Sys2Proof.Machine

/-! ## Regions -/

/-- The region is in range (R70). -/
def Region.Fits (r : Region) (s : State) : Prop := r.addr + r.len ≤ s.bufSize

/-- The regions do not overlap (R71). -/
def Region.Apart (o r : Region) : Prop :=
  o.len = 0 ∨ r.len = 0 ∨ r.addr + r.len ≤ o.addr ∨ o.addr + o.len ≤ r.addr

/-- The address is outside the region. -/
def Region.Excludes (r : Region) (a : Nat) : Prop := a < r.addr ∨ r.addr + r.len ≤ a

/-! ## Frames -/

/-- Every byte of the scratchpad reads as before. -/
def SameSp (s t : State) : Prop := ∀ a, t.byteAt a = s.byteAt a

/-- Every byte of the scratchpad outside the region reads as before. -/
def SameSpOutside (r : Region) (s t : State) : Prop :=
  ∀ a, r.Excludes a → t.byteAt a = s.byteAt a

/-- The scratchpad holds the byte sequence from the address on. -/
def HoldsAt (t : State) (a : Nat) (bs : List Byte) : Prop := t.memRead a bs.length = bs

/-- REF and REF_VALID are unchanged. -/
def SameRef (s t : State) : Prop := t.ref = s.ref ∧ t.refValid = s.refValid

/-- The result registers are unchanged. -/
def SameResults (s t : State) : Prop :=
  t.resLen = s.resLen ∧ t.resKey = s.resKey ∧ t.resIdx = s.resIdx ∧ t.resScore = s.resScore

/-- What no command writes: CFG, INTEN, CMD, BLKSZ, ARG0..ARG7, BUF_SIZE, the snapshot, and the model's
own fields but the counts of draws and of requests. -/
structure SameSetup (s t : State) : Prop where
  sym : t.sym = s.sym
  ie : t.ie = s.ie
  cmd : t.cmd = s.cmd
  blksz : t.blksz = s.blksz
  args : t.args = s.args
  bufSize : t.bufSize = s.bufSize
  snap : t.snap = s.snap
  inputs : t.inputs = s.inputs
  hostResp : t.hostResp = s.hostResp
  epoch : t.epoch = s.epoch

/-- A host read finds unspecified exactly the bytes of the scratchpad inside the region (R68, R245). -/
def DirtyIs (r : Region) (t : State) : Prop :=
  ∀ a, a < t.bufSize → (t.isDirty a = true ↔ r.addr ≤ a ∧ a < r.addr + r.len)

/-! ## Completion -/

/-- The engine is at rest after a completion event (R206). -/
structure AtRest (t : State) : Prop where
  engine : t.engine = .idle
  dirty : t.dirty = none
  pend : t.pend = none
  progress : t.progress = .fresh

/-- Completion without an error (R206). -/
structure Succeeded (t : State) : Prop where
  done : t.done = true
  err : t.err = false
  errCode : t.errCode = 0
  rest : AtRest t

/-- Completion with an error (R206). -/
structure Failed (code : Byte) (t : State) : Prop where
  done : t.done = true
  err : t.err = true
  errCode : t.errCode = code
  rest : AtRest t

/-- A validation error's state (R207 a): nothing changed but STATUS and the engine. -/
structure FailedCleanly (code : Byte) (s t : State) : Prop where
  failed : Failed code t
  sp : SameSp s t
  ref : SameRef s t
  results : SameResults s t
  setup : SameSetup s t

/-- The command ends at once with the error, and nothing else changes (R207 a). -/
def EndsWith (i : Instr) (code : Byte) (s : State) : Prop :=
  ∃ t, exec i s = .next t ∧ FailedCleanly code s t

/-- A weight with its sign bit set, an infinity or a NaN (R126). -/
def BadWeight (x : F64) : Prop := f64Sign x = true ∨ f64IsInf x = true ∨ f64IsNaN x = true

/-- Two runs, one from `a` to `x` and one from `b` to `y`, wrote the same value, or neither wrote. -/
def WroteAlike {α : Type} (a b x y : α) : Prop := y = x ∨ (x = a ∧ y = b)

/-- The values that power-on reset gives (R240). Bytes of SP and entries of REF are unspecified there:
each is the free value of its number (log entries 1, 2 and 13). -/
structure PowerOnValues (t : State) : Prop where
  sym : t.sym = false
  status : t.statusWord = 0
  ie : t.ie = false
  cmd : t.cmd = 0
  blksz : t.blksz = 16
  args : ∀ i, t.args.get i = 0
  resLen : t.resLen = 0
  resKey : t.resKey = 0
  resIdx : t.resIdx = 0
  resScore : t.resScore = 0
  refValid : t.refValid = false
  engine : t.engine = .idle
  pend : t.pend = none
  dirty : t.dirty = none
  progress : t.progress = .fresh
  irq : t.irq = false
  sp : ∀ a, t.byteAt a = Config.spPowerOn t.epoch a
  ref : ∀ v : Fin 256, t.ref.get v = Config.refPowerOn t.epoch v.val

/-! ## The invariant -/

/-- The locals of a CBC command between its requests (R183 to R185). -/
structure CbcSound (s : State) (l : CbcLocals) : Prop where
  command : s.fetch = .ok .cbcenc ∨ s.fetch = .ok .cbcdec
  blkPos : 0 < s.blkLen
  prevBlock : l.prev.length = s.blkLen
  whole : s.blkLen ∣ l.data.length
  inside : (l.block + 1) * s.blkLen ≤ l.data.length
  dirty : s.dirty = some (s.argSized 6 l.data.length)

/-- ENGINE, PEND and the internal progress agree (R39, R182). -/
def ProgressSound (s : State) : Prop :=
  match s.progress with
  | .fresh => s.engine ≠ .waitEcb ∧ s.pend = none
  | .waiting l => s.engine = .waitEcb ∧ CbcSound s l ∧
      ∃ r, s.pend = some r ∧ r.key = l.key ∧ r.block.length = s.blkLen
  | .answered l a => s.engine = .run ∧ CbcSound s l ∧ s.pend = none ∧
      ∀ y, a = .ok y → y.length = s.blkLen

/-- What holds of XCS in every state that it reaches. -/
structure State.Inv (s : State) : Prop where
  /-- R8: the constraint on BUF_SIZE. -/
  bufSize : bufSizeWellFormed s.bufSize = true
  /-- The scratchpad is in its canonical form. -/
  memCanonical : s.sp.wf = true
  /-- R38: the scratchpad has BUF_SIZE bytes. -/
  memBounded : ∀ c ∈ s.sp.cells, c.1 < s.bufSize
  /-- R25: ERR = 1 implies DONE = 1. -/
  errDone : s.err = true → s.done = true
  /-- R25: ERRCODE is 0 when ERR = 0. -/
  codeZero : s.err = false → s.errCode = 0
  /-- R200: ERRCODE holds a listed code, and never 0x07. -/
  codeListed : s.err = true → ∃ c : ErrCode, c ≠ .keysizeTooLarge ∧ s.errCode = c.code
  /-- R25: BUSY = 1 implies DONE = 0 and ERR = 0. -/
  busyClear : s.busy = true → s.done = false ∧ s.err = false
  /-- R31, R245: the result registers read 0 while BUSY and after an error. -/
  resultsClear : s.busy = true ∨ s.err = true →
    s.resLen = 0 ∧ s.resKey = 0 ∧ s.resIdx = 0 ∧ s.resScore = 0
  /-- R206: DIRTY is none and no command is in progress while IDLE. -/
  idleQuiet : s.engine = .idle → s.dirty = none ∧ s.progress = .fresh
  /-- R39 d: from START until its first request, DIRTY is the output region of the command. -/
  dirtyOutput : s.engine = .run → s.progress = .fresh → s.dirty = s.runningOutput
  /-- R70: DIRTY is in range. -/
  dirtyFits : ∀ r, s.dirty = some r → r.Fits s
  /-- R36: while REF_VALID, every entry of REF is non-negative and finite. -/
  refOk : s.refValid = true → ∀ v, weightOk (s.ref.get v) = true
  /-- R36: the same for a running command's snapshot. -/
  snapRefOk : s.busy = true → s.snap.refValid = true → ∀ v, weightOk (s.snap.ref.get v) = true
  /-- R39, R182: ENGINE, PEND and the progress agree. -/
  progress : ProgressSound s

/-! ## Runs of the engine against an oracle -/

/-- One move of engine and oracle: the oracle answers an outstanding request, else the engine moves. -/
def driveStep (o : EcbRequest → EcbAnswer) (s : State) : Host.Outcome State Fault Refusal :=
  match s.engine, s.pend with
  | .waitEcb, some r => oracleStep s.issued (o r) s
  | _, _ => engineStep s

/-- `k` moves of engine and oracle, with no host access between them. -/
def drive (o : EcbRequest → EcbAnswer) : Nat → State → Host.Outcome State Fault Refusal
  | 0, s => .next s
  | k + 1, s =>
    match driveStep o s with
    | .next t => drive o k t
    | .fault f => .fault f
    | .refused r => .refused r

/-- An oracle that answers ENC and DEC with functions of key and block, and never Fail (R186). -/
def functionalOracle (enc dec : List Byte → List Byte → List Byte) (r : EcbRequest) : EcbAnswer :=
  match r.dir with
  | .enc => .ok (enc r.key r.block)
  | .dec => .ok (dec r.key r.block)

/-- A CBC command has just been started on operands that pass its checks: ENGINE is RUN, nothing of it
has been executed, the block size is not 0, the IV is one block long, the text, key, IV and output
regions are in range, and the output region overlaps none of the others (R184, R185). -/
structure CbcReady (i : Instr) (out : Region) (s : State) : Prop where
  run : s.engine = .run
  fetch : s.fetch = .ok i
  fresh : s.progress = .fresh
  blkPos : 0 < s.blkLen
  iv : s.arg 5 = s.blkLen
  textFits : (s.argRegion 0 1).Fits s
  keyFits : (s.argRegion 2 3).Fits s
  ivFits : (s.argRegion 4 5).Fits s
  outFits : out.Fits s
  apartText : out.Apart (s.argRegion 0 1)
  apartKey : out.Apart (s.argRegion 2 3)
  apartIv : out.Apart (s.argRegion 4 5)

end Sys2Proof.Machine
end

