-- ==== Sys2Proof/Certificates/Slice0/Obligations.lean ====
section
/-! DEFINITION. The statements for the provers. -/

open Sys2Proof Sys2Proof.Machine

/-! ## Encoding and step -/

/-- R92: a CMD word selects each command exactly when it is the word that the opcode map gives. -/
def Obligations.DecodeSelectsExactlyTheOpcodeMap : Prop :=
  ∀ w : Word,
    (decode w = .ok .xor ↔ w = 0x01#32) ∧ (decode w = .ok .rxor ↔ w = 0x02#32) ∧
    (decode w = .ok .hist ↔ w = 0x10#32) ∧ (decode w = .ok .relfreq ↔ w = 0x11#32) ∧
    (decode w = .ok .bcoef ↔ w = 0x12#32) ∧ (decode w = .ok .score ↔ w = 0x13#32) ∧
    (decode w = .ok .ldref ↔ w = 0x14#32) ∧ (decode w = .ok .xscore ↔ w = 0x20#32) ∧
    (decode w = .ok .bestxor ↔ w = 0x21#32) ∧ (decode w = .ok .sbxor ↔ w = 0x22#32) ∧
    (decode w = .ok .detect ↔ w = 0x23#32) ∧ (decode w = .ok .pad ↔ w = 0x30#32) ∧
    (decode w = .ok .unpad ↔ w = 0x31#32) ∧ (decode w = .ok .cbcenc ↔ w = 0x40#32) ∧
    (decode w = .ok .cbcdec ↔ w = 0x41#32)

/-- R92, R96: decoding the encoding of a command gives the command back. -/
def Obligations.DecodeOfEncode : Prop := ∀ i : Instr, decode (encode i) = .ok i

/-- R92: a few CMD words of the opcode map decode to their commands. -/
def Obligations.SpecWordsDecode : Prop :=
  decode 0x00000001 = .ok .xor ∧ decode 0x00000014 = .ok .ldref ∧ decode 0x00000023 = .ok .detect ∧
    decode 0x00000031 = .ok .unpad ∧ decode 0x00000041 = .ok .cbcdec

/-- R95: a CMD word with reserved bits set, or with an opcode outside the map, makes the command end with
E_ILLEGAL_CMD (0x01), with nothing else changed. -/
def Obligations.IllegalCommandEndsWithError : Prop :=
  ∀ s : State, s.engine = .run → (∀ i : Instr, s.snap.cmd ≠ encode i) →
    ∃ t, engineStep s = .next t ∧ FailedCleanly 0x01 s t

/-- R204: with the engine's turn next (or no input left) and the engine in RUN, the step is the
meaning of the command that SNAP.CMD decodes to, on the state without that turn. That an empty input
list is the engine's turn is the model's choice (log entry 7). -/
def Obligations.StepRunsTheDecodedCommand : Prop :=
  ∀ (s : State) (i : Instr), s.engine = .run → s.fetch = .ok i → i.wellFormed = true →
    (s.inputs = [] → step s = exec i s) ∧
    (∀ rest, s.inputs = .engine :: rest → step s = exec i { s with inputs := rest })

/-! ## ByteOps -/

/-- R110: XOR writes A[i] XOR B[i] to dst and completes with RES_LEN = a_len; every other byte and
register keeps its value. -/
def Obligations.XorWritesTheExclusiveOr : Prop :=
  ∀ s : State, s.arg 1 = s.arg 3 →
    (s.argRegion 0 1).Fits s → (s.argRegion 2 3).Fits s → (s.argRegion 4 1).Fits s →
    (s.argRegion 4 1).Apart (s.argRegion 0 1) → (s.argRegion 4 1).Apart (s.argRegion 2 3) →
    ∃ t, exec .xor s = .next t ∧
      (∀ i, i < s.arg 1 →
        t.byteAt (s.arg 4 + i) = s.byteAt (s.arg 0 + i) ^^^ s.byteAt (s.arg 2 + i)) ∧
      SameSpOutside (s.argRegion 4 1) s t ∧ t.resLen = BitVec.ofNat 32 (s.arg 1) ∧
      t.resKey = s.resKey ∧ t.resIdx = s.resIdx ∧ t.resScore = s.resScore ∧
      Succeeded t ∧ SameRef s t ∧ SameSetup s t

/-- R111: RXOR writes M[i] XOR K[i mod len(K)] to dst and completes with RES_LEN = msg_len. -/
def Obligations.RxorWritesTheRepeatingXor : Prop :=
  ∀ s : State, 0 < s.arg 1 →
    (s.argRegion 0 1).Fits s → (s.argRegion 2 3).Fits s → (s.argRegion 4 3).Fits s →
    (s.argRegion 4 3).Apart (s.argRegion 0 1) → (s.argRegion 4 3).Apart (s.argRegion 2 3) →
    ∃ t, exec .rxor s = .next t ∧
      (∀ i, i < s.arg 3 →
        t.byteAt (s.arg 4 + i) = s.byteAt (s.arg 2 + i) ^^^ s.byteAt (s.arg 0 + i % s.arg 1)) ∧
      SameSpOutside (s.argRegion 4 3) s t ∧ t.resLen = BitVec.ofNat 32 (s.arg 3) ∧
      t.resKey = s.resKey ∧ t.resIdx = s.resIdx ∧ t.resScore = s.resScore ∧
      Succeeded t ∧ SameRef s t ∧ SameSetup s t

/-- R112: RXOR with one key twice restores the message. -/
def Obligations.RxorUndoesItself : Prop :=
  ∀ k m : List Byte, k ≠ [] → rxorBytes k (rxorBytes k m) = m

/-! ## LanguageModel -/

/-- R124: HIST writes the count of every bin as a 32-bit little-endian word, OTHER as word 256, and
completes with RES_LEN = the symbol total. -/
def Obligations.HistWritesTheCounts : Prop :=
  ∀ s : State, (s.argRegion 0 1).Fits s → (s.argSized 2 1028).Fits s →
    (s.argSized 2 1028).Apart (s.argRegion 0 1) →
    ∃ t, exec .hist s = .next t ∧
      (∀ v, v < 257 → t.u32At (s.arg 2 + 4 * v)
        = binCount (syms (s.readRegion (s.argRegion 0 1)) s.snap.sym) v) ∧
      SameSpOutside (s.argSized 2 1028) s t ∧
      t.resLen.toNat = (syms (s.readRegion (s.argRegion 0 1)) s.snap.sym).length ∧
      t.resKey = s.resKey ∧ t.resIdx = s.resIdx ∧ t.resScore = s.resScore ∧
      Succeeded t ∧ SameRef s t ∧ SameSetup s t

/-- R125: RELFREQ writes count / total of every bin as binary64 and completes with RES_LEN = the symbol
total. -/
def Obligations.RelfreqWritesTheFrequencies : Prop :=
  ∀ s : State, 0 < s.arg 1 → (s.argRegion 0 1).Fits s → (s.argSized 2 2056).Fits s →
    (s.argSized 2 2056).Apart (s.argRegion 0 1) →
    ∃ t, exec .relfreq s = .next t ∧
      (∀ v, v < 257 → t.f64At (s.arg 2 + 8 * v)
        = f64Div (f64OfNat (binCount (syms (s.readRegion (s.argRegion 0 1)) s.snap.sym) v))
            (f64OfNat (syms (s.readRegion (s.argRegion 0 1)) s.snap.sym).length)) ∧
      SameSpOutside (s.argSized 2 2056) s t ∧
      t.resLen.toNat = (syms (s.readRegion (s.argRegion 0 1)) s.snap.sym).length ∧
      t.resKey = s.resKey ∧ t.resIdx = s.resIdx ∧ t.resScore = s.resScore ∧
      Succeeded t ∧ SameRef s t ∧ SameSetup s t

/-- R125: a relative frequency is 1.0 exactly when all symbols fall in the bin. -/
def Obligations.FrequencyOneExactlyForOneBin : Prop :=
  ∀ (p : List Byte) (sym : Bool) (v : Nat), p ≠ [] → p.length < 2 ^ 32 →
    (relfreq p sym v = 0x3FF0000000000000#64 ↔ ∀ g ∈ syms p sym, binOf g = v)

/-- R126: BCOEF on two tables of legal weights completes with RES_SCORE = their coefficient and writes
no byte. -/
def Obligations.BcoefScoresTheTables : Prop :=
  ∀ s : State, (s.argSized 0 2048).Fits s → (s.argSized 1 2048).Fits s →
    (∀ v, v < 256 → weightOk (s.f64At (s.arg 0 + 8 * v)) = true) →
    (∀ v, v < 256 → weightOk (s.f64At (s.arg 1 + 8 * v)) = true) →
    ∃ t, exec .bcoef s = .next t ∧
      t.resScore = bcoef (fun v => s.f64At (s.arg 0 + 8 * v)) (fun v => s.f64At (s.arg 1 + 8 * v)) ∧
      SameSp s t ∧ t.resLen = s.resLen ∧ t.resKey = s.resKey ∧ t.resIdx = s.resIdx ∧
      Succeeded t ∧ SameRef s t ∧ SameSetup s t

/-- R127: SCORE of a non-empty text completes with RES_SCORE = its score against REF and RES_LEN = the
symbol total. -/
def Obligations.ScoreScoresTheText : Prop :=
  ∀ s : State, 0 < s.arg 1 → s.snap.refValid = true → (s.argRegion 0 1).Fits s →
    ∃ t, exec .score s = .next t ∧
      t.resScore = bcoef s.snapRef (relfreq (s.readRegion (s.argRegion 0 1)) s.snap.sym) ∧
      t.resLen.toNat = (syms (s.readRegion (s.argRegion 0 1)) s.snap.sym).length ∧
      SameSp s t ∧ t.resKey = s.resKey ∧ t.resIdx = s.resIdx ∧
      Succeeded t ∧ SameRef s t ∧ SameSetup s t

/-- R128: LDREF of a table of legal weights loads all 256 entries of REF, sets REF_VALID and completes
with no result. -/
def Obligations.LdrefLoadsTheTable : Prop :=
  ∀ s : State, (s.argSized 0 2048).Fits s →
    (∀ v, v < 256 → weightOk (s.f64At (s.arg 0 + 8 * v)) = true) →
    ∃ t, exec .ldref s = .next t ∧
      (∀ v : Fin 256, t.ref.get v = s.f64At (s.arg 0 + 8 * v.val)) ∧ t.refValid = true ∧
      SameSp s t ∧ SameResults s t ∧ Succeeded t ∧ SameSetup s t

/-- R126, R128, F1: a table with one weight that is negative, -0.0, infinite or NaN makes LDREF end with
E_BAD_WEIGHT (0x0E), with REF and REF_VALID unchanged. -/
def Obligations.LdrefRejectsBadWeights : Prop :=
  ∀ (s : State) (v : Nat), (s.argSized 0 2048).Fits s → v < 256 →
    (f64Sign (s.f64At (s.arg 0 + 8 * v)) = true ∨ f64IsInf (s.f64At (s.arg 0 + 8 * v)) = true ∨
      f64IsNaN (s.f64At (s.arg 0 + 8 * v)) = true) →
    ∃ t, exec .ldref s = .next t ∧ FailedCleanly 0x0E s t

/-- R122: the symbol functions satisfy the laws L1 to L5. -/
def Obligations.SymbolFunctionsKeepTheLaws : Prop :=
  (∀ s : List Byte, (graphemes s).flatten = s ∧ ∀ g ∈ graphemes s, g ≠ []) ∧
  (ufold [] = [] ∧ ∀ s : List Byte, s ≠ [] → ufold s ≠ []) ∧
  (∀ s : List Byte, (∀ b ∈ s, b.toNat < 0x80) → ufold s = s.map bfold) ∧
  (∀ s : List Byte, (∀ b ∈ s, b.toNat < 0x80) →
    (∀ g ∈ graphemes s, g.length = 1 ∨ g = [0x0D#8, 0x0A#8]) ∧
    (∀ i, ¬((graphemes s)[i]? = some [0x0D#8] ∧ (graphemes s)[i + 1]? = some [0x0A#8]))) ∧
  (∀ s : List Byte, (graphemes (ufold s)).length ≤ s.length)

/-- R123: on bytes below 0x80 with no adjacent pair CR LF the two symbol modes agree. -/
def Obligations.SymbolModesAgreeOnPlainAscii : Prop :=
  ∀ p : List Byte, (∀ b ∈ p, b.toNat < 0x80) →
    (∀ i, ¬(p[i]? = some 0x0D#8 ∧ p[i + 1]? = some 0x0A#8)) → syms p false = syms p true

/-- R126, R129: the coefficient of legal weights is not a NaN and has sign bit 0. -/
def Obligations.CoefficientIsNeverNaN : Prop :=
  ∀ p q : Nat → F64, (∀ v, v < 256 → weightOk (p v) = true) →
    (∀ v, v < 256 → weightOk (q v) = true) →
    f64IsNaN (bcoef p q) = false ∧ f64Sign (bcoef p q) = false

/-! ## Binary64 -/

/-- R15: rounding a quotient (for sum, product and quotient) or a square root to a magnitude gives a
nearest finite value, and of two nearest ones the even one; it gives infinity exactly from half a unit
above the greatest finite value on (F2); and `f64_sqrt` of a positive finite value is that root. All
values count units of 2^-1074. `f64_add`, `f64_mul` and `f64_div` of non-negative finite values are the
roundings of the exact sum, product and quotient, and `f64_of_nat` is exact below 2^32. -/
def Obligations.RoundingIsNearestEven : Prop :=
  (∀ num den : Nat, 0 < den →
    roundRatio num den ≤ infMag ∧
    (roundRatio num den = infMag ↔ den * ((2 ^ 54 - 1) * 2 ^ 2044) ≤ num) ∧
    (roundRatio num den < infMag → ∀ m, m < infMag →
      ((num : Int) - den * f64Scaled (f64Pack false (roundRatio num den))).natAbs
        ≤ ((num : Int) - den * f64Scaled (f64Pack false m)).natAbs ∧
      (m ≠ roundRatio num den →
        ((num : Int) - den * f64Scaled (f64Pack false (roundRatio num den))).natAbs
          = ((num : Int) - den * f64Scaled (f64Pack false m)).natAbs →
        roundRatio num den % 2 = 0))) ∧
  (∀ n : Nat,
    roundSqrt n ≤ infMag ∧
    (roundSqrt n = infMag ↔ ((2 ^ 54 - 1) * 2 ^ 2044) ^ 2 ≤ n) ∧
    (roundSqrt n < infMag → ∀ m a b, m < infMag → m ≠ roundSqrt n →
      a = f64Scaled (f64Pack false (roundSqrt n)) → b = f64Scaled (f64Pack false m) →
      (a < b ∧ 4 * n ≤ (a + b) ^ 2 ∨ b < a ∧ (a + b) ^ 2 ≤ 4 * n) ∧
      (4 * n = (a + b) ^ 2 → roundSqrt n % 2 = 0))) ∧
  (∀ x : F64, f64Sign x = false → 0 < f64Mag x → f64Mag x < infMag →
    f64Sqrt x = f64Pack false (roundSqrt (f64Scaled x * 2 ^ 1074))) ∧
  (∀ x y : F64, f64Sign x = false → f64Sign y = false → f64Mag x < infMag → f64Mag y < infMag →
    f64Add x y = f64Pack false (roundRatio (f64Scaled x + f64Scaled y) 1) ∧
    f64Mul x y = f64Pack false (roundRatio (f64Scaled x * f64Scaled y) (2 ^ 1074)) ∧
    (0 < f64Mag y →
      f64Div x y = f64Pack false (roundRatio (f64Scaled x * 2 ^ 1074) (f64Scaled y)))) ∧
  (∀ n : Nat, n < 2 ^ 32 → f64Sign (f64OfNat n) = false ∧ f64Mag (f64OfNat n) < infMag ∧
    f64Scaled (f64OfNat n) = n * 2 ^ 1074)

/-! ## XorBreaker -/

/-- R150: the winner is the first maximal element of scores that are not NaN, in the numerical order of
R15: finite values by their units of 2^-1074, with an infinity above or below all of them. -/
def Obligations.WinnerIsTheFirstMaximum : Prop :=
  (∀ scores : List F64, scores ≠ [] → (∀ x ∈ scores, f64IsNaN x = false) →
    firstMax scores < scores.length ∧
    (∀ j, j < scores.length → f64Gt (scores.getD j 0) (scores.getD (firstMax scores) 0) = false) ∧
    (∀ j, j < firstMax scores →
      f64Gt (scores.getD (firstMax scores) 0) (scores.getD j 0) = true)) ∧
  (∀ x y : F64, f64Mag x < infMag → f64Mag y < infMag →
    (f64Gt x y = true ↔ f64Units y < f64Units x)) ∧
  (∀ (x y : F64), f64IsInf x = true → f64IsNaN y = false →
    (f64Gt x y = true ↔ f64Sign x = false ∧ y ≠ x) ∧
    (f64Gt y x = true ↔ f64Sign x = true ∧ y ≠ x))

/-- R151: XSCORE writes the plaintext of the candidate key and completes with its score. -/
def Obligations.XscoreScoresTheCandidate : Prop :=
  ∀ s : State, 0 < s.arg 1 → 0 < s.arg 3 → s.snap.refValid = true →
    (s.argRegion 0 1).Fits s → (s.argRegion 2 3).Fits s → (s.argRegion 4 3).Fits s →
    (s.argRegion 4 3).Apart (s.argRegion 0 1) → (s.argRegion 4 3).Apart (s.argRegion 2 3) →
    ∃ t, exec .xscore s = .next t ∧
      HoldsAt t (s.arg 4)
        (rxorBytes (s.readRegion (s.argRegion 0 1)) (s.readRegion (s.argRegion 2 3))) ∧
      SameSpOutside (s.argRegion 4 3) s t ∧
      t.resScore = escore
        (rxorBytes (s.readRegion (s.argRegion 0 1)) (s.readRegion (s.argRegion 2 3)))
        s.snap.sym s.snapRef ∧
      t.resLen = BitVec.ofNat 32 (s.arg 3) ∧ t.resKey = s.resKey ∧ t.resIdx = s.resIdx ∧
      Succeeded t ∧ SameRef s t ∧ SameSetup s t

/-- R152: BESTXOR writes the plaintext of the first best key entry and completes with its index and
score; RES_KEY is not written. -/
def Obligations.BestxorFindsTheBestEntry : Prop :=
  ∀ s : State, 0 < s.arg 1 → 0 < s.arg 3 → s.snap.refValid = true →
    s.descTable.Fits s → (s.argRegion 2 3).Fits s → (s.argRegion 4 3).Fits s →
    (∀ j, j < s.arg 1 → (s.descEntry j).Fits s ∧ 0 < (s.descEntry j).len ∧
      (s.argRegion 4 3).Apart (s.descEntry j)) →
    (s.argRegion 4 3).Apart s.descTable → (s.argRegion 4 3).Apart (s.argRegion 2 3) →
    ∃ t best, exec .bestxor s = .next t ∧ best < s.arg 1 ∧
      best = firstMax ((List.range (s.arg 1)).map (fun j =>
        escore (rxorBytes (s.readRegion (s.descEntry j)) (s.readRegion (s.argRegion 2 3)))
          s.snap.sym s.snapRef)) ∧
      HoldsAt t (s.arg 4)
        (rxorBytes (s.readRegion (s.descEntry best)) (s.readRegion (s.argRegion 2 3))) ∧
      SameSpOutside (s.argRegion 4 3) s t ∧
      t.resScore = escore
        (rxorBytes (s.readRegion (s.descEntry best)) (s.readRegion (s.argRegion 2 3)))
        s.snap.sym s.snapRef ∧
      t.resIdx.toNat = best ∧ t.resLen = BitVec.ofNat 32 (s.arg 3) ∧ t.resKey = s.resKey ∧
      Succeeded t ∧ SameRef s t ∧ SameSetup s t

/-- R153: SBXOR searches the keys 0 to 255 and completes with the first best key, its score and its
plaintext. -/
def Obligations.SbxorFindsTheBestByte : Prop :=
  ∀ s : State, 0 < s.arg 1 → s.snap.refValid = true →
    (s.argRegion 0 1).Fits s → (s.argRegion 2 1).Fits s →
    (s.argRegion 2 1).Apart (s.argRegion 0 1) →
    ∃ t, exec .sbxor s = .next t ∧
      t.resKey.toNat = firstMax ((List.range 256).map (fun k =>
        escore (rxorBytes [BitVec.ofNat 8 k] (s.readRegion (s.argRegion 0 1)))
          s.snap.sym s.snapRef)) ∧
      HoldsAt t (s.arg 2) (rxorBytes [t.resKey] (s.readRegion (s.argRegion 0 1))) ∧
      SameSpOutside (s.argRegion 2 1) s t ∧
      t.resScore = escore (rxorBytes [t.resKey] (s.readRegion (s.argRegion 0 1)))
        s.snap.sym s.snapRef ∧
      t.resLen = BitVec.ofNat 32 (s.arg 1) ∧ t.resIdx = s.resIdx ∧
      Succeeded t ∧ SameRef s t ∧ SameSetup s t

/-- R154: DETECT searches every line and completes with the first best line, its key, its score, its
length and its plaintext; only the bytes of that plaintext are written. -/
def Obligations.DetectFindsTheBestLine : Prop :=
  ∀ s : State, 0 < s.arg 1 → s.snap.refValid = true → s.descTable.Fits s →
    (∀ j, j < s.arg 1 → (s.descEntry j).Fits s ∧ 0 < (s.descEntry j).len ∧
      (s.descEntry j).len ≤ maxLen s.descEntries ∧
      (s.argSized 2 (maxLen s.descEntries)).Apart (s.descEntry j)) →
    (s.argSized 2 (maxLen s.descEntries)).Fits s →
    (s.argSized 2 (maxLen s.descEntries)).Apart s.descTable →
    ∃ t best, exec .detect s = .next t ∧ best < s.arg 1 ∧
      best = firstMax ((List.range (s.arg 1)).map (fun j =>
        (sbsearch (s.readRegion (s.descEntry j)) s.snap.sym s.snapRef).score)) ∧
      HoldsAt t (s.arg 2)
        (sbsearch (s.readRegion (s.descEntry best)) s.snap.sym s.snapRef).plain ∧
      SameSpOutside (s.argSized 2 (s.descEntry best).len) s t ∧
      t.resKey = (sbsearch (s.readRegion (s.descEntry best)) s.snap.sym s.snapRef).key ∧
      t.resScore = (sbsearch (s.readRegion (s.descEntry best)) s.snap.sym s.snapRef).score ∧
      t.resIdx.toNat = best ∧ t.resLen.toNat = (s.descEntry best).len ∧
      Succeeded t ∧ SameRef s t ∧ SameSetup s t

/-- R155: SBXOR agrees with BESTXOR on a table of the 256 one-byte keys in ascending order. -/
def Obligations.SbxorIsBestxorOverAllBytes : Prop :=
  ∀ s u : State, firstFailure (sbxorChecks s) = none → firstFailure (bestxorChecks u) = none →
    u.arg 1 = 256 → (∀ k, k < 256 → u.readRegion (u.descEntry k) = [BitVec.ofNat 8 k]) →
    u.readRegion (u.argRegion 2 3) = s.readRegion (s.argRegion 0 1) →
    u.snap.sym = s.snap.sym → u.snap.ref = s.snap.ref →
    ∃ t w, exec .sbxor s = .next t ∧ exec .bestxor u = .next w ∧
      w.resScore = t.resScore ∧ w.resIdx = t.resKey.setWidth 32 ∧ w.resKey = u.resKey ∧
      w.memRead (u.arg 4) (u.arg 3) = t.memRead (s.arg 2) (s.arg 1)

/-! ## BlockPadding -/

/-- R170: PAD copies the message, appends p bytes of value p with p = B - (n mod B), and completes with
RES_LEN = n + p. -/
def Obligations.PadAppendsThePadding : Prop :=
  ∀ (s : State) (p : Nat), 0 < s.blkLen → p = s.blkLen - s.arg 1 % s.blkLen →
    (s.argRegion 0 1).Fits s → (s.argSized 2 (s.arg 1 + p)).Fits s →
    (s.argSized 2 (s.arg 1 + p)).Apart (s.argRegion 0 1) →
    ∃ t, exec .pad s = .next t ∧
      (∀ i, i < s.arg 1 → t.byteAt (s.arg 2 + i) = s.byteAt (s.arg 0 + i)) ∧
      (∀ i, i < p → (t.byteAt (s.arg 2 + s.arg 1 + i)).toNat = p) ∧
      SameSpOutside (s.argSized 2 (s.arg 1 + p)) s t ∧
      t.resLen = BitVec.ofNat 32 (s.arg 1 + p) ∧
      t.resKey = s.resKey ∧ t.resIdx = s.resIdx ∧ t.resScore = s.resScore ∧
      Succeeded t ∧ SameRef s t ∧ SameSetup s t

/-- R171: UNPAD copies all but the last p bytes, p being the value of the last byte, whatever the other
padding bytes are, and completes with RES_LEN = n - p. -/
def Obligations.UnpadTruncatesByTheLastByte : Prop :=
  ∀ (s : State) (p : Nat), 0 < s.arg 1 → p = (s.byteAt (s.arg 0 + s.arg 1 - 1)).toNat →
    p ≤ s.arg 1 → (s.argRegion 0 1).Fits s → (s.argSized 2 (s.arg 1 - p)).Fits s →
    (s.argSized 2 (s.arg 1 - p)).Apart (s.argRegion 0 1) →
    ∃ t, exec .unpad s = .next t ∧
      (∀ i, i < s.arg 1 - p → t.byteAt (s.arg 2 + i) = s.byteAt (s.arg 0 + i)) ∧
      SameSpOutside (s.argSized 2 (s.arg 1 - p)) s t ∧
      t.resLen = BitVec.ofNat 32 (s.arg 1 - p) ∧
      t.resKey = s.resKey ∧ t.resIdx = s.resIdx ∧ t.resScore = s.resScore ∧
      Succeeded t ∧ SameRef s t ∧ SameSetup s t

/-- R172: unpad undoes pad, for every block size in 1..255; the last byte of the padded sequence is p,
the padding length, with 1 <= p <= b <= its length. -/
def Obligations.UnpadUndoesPad : Prop :=
  ∀ (m : List Byte) (b : Nat), 1 ≤ b → b ≤ 255 →
    unpadBytes (padBytes m b) = m ∧
      ((padBytes m b).getLastD 0).toNat = padLen m.length b ∧
      1 ≤ padLen m.length b ∧ padLen m.length b ≤ b ∧ b ≤ (padBytes m b).length

/-! ## CBCCodec -/

/-- R184: a CBCENC that passes its checks issues the ENC request for block 0, the first padded block
XOR the IV, with the key bytes; nothing is written yet. The steps of the loop and its locals are the
model's choice (log entry 18). -/
def Obligations.CbcencIssuesTheFirstRequest : Prop :=
  ∀ s : State, CbcReady .cbcenc (s.argSized 6 (s.arg 1 + padLen (s.arg 1) s.blkLen)) s →
    ∃ t, exec .cbcenc s = .next t ∧ t.engine = .waitEcb ∧
      t.pend = some
        { dir := .enc, key := s.readRegion (s.argRegion 2 3),
          block := xorBytes ((padBytes (s.readRegion (s.argRegion 0 1)) s.blkLen).take s.blkLen)
            (s.readRegion (s.argRegion 4 5)) } ∧
      t.progress = .waiting
        { data := padBytes (s.readRegion (s.argRegion 0 1)) s.blkLen,
          key := s.readRegion (s.argRegion 2 3), prev := s.readRegion (s.argRegion 4 5),
          block := 0 } ∧
      t.dirty = some (s.argSized 6 (s.arg 1 + padLen (s.arg 1) s.blkLen)) ∧
      SameSp s t ∧ SameRef s t ∧ SameResults s t ∧ SameSetup s t ∧
      t.done = s.done ∧ t.err = s.err ∧ t.errCode = s.errCode

/-- R184: after the answer c to a request that is not the last, CBCENC writes c at its block's place
and requests the next block XOR c. The steps of the loop and its locals are the model's choice (log
entry 18). -/
def Obligations.CbcencContinues : Prop :=
  ∀ (s : State) (l : CbcLocals) (c : List Byte), s.progress = .answered l (.ok c) →
    c.length = s.blkLen → (l.block + 1) * s.blkLen < l.data.length →
    ∃ t, exec .cbcenc s = .next t ∧ t.engine = .waitEcb ∧
      t.pend = some
        { dir := .enc, key := l.key,
          block := xorBytes (blk l.data s.blkLen (l.block + 1)) c } ∧
      t.progress = .waiting { l with prev := c, block := l.block + 1 } ∧
      HoldsAt t (s.arg 6 + l.block * s.blkLen) c ∧
      SameSpOutside { addr := s.arg 6 + l.block * s.blkLen, len := s.blkLen } s t ∧
      t.dirty = s.dirty ∧ SameRef s t ∧ SameResults s t ∧ SameSetup s t ∧
      t.done = s.done ∧ t.err = s.err ∧ t.errCode = s.errCode

/-- R184: after the answer c to the last request, CBCENC writes c and completes with RES_LEN = the
padded length. The steps of the loop and its locals are the model's choice (log entry 18). -/
def Obligations.CbcencCompletes : Prop :=
  ∀ (s : State) (l : CbcLocals) (c : List Byte), s.progress = .answered l (.ok c) →
    c.length = s.blkLen → l.data.length ≤ (l.block + 1) * s.blkLen →
    ∃ t, exec .cbcenc s = .next t ∧ Succeeded t ∧
      HoldsAt t (s.arg 6 + l.block * s.blkLen) c ∧
      SameSpOutside { addr := s.arg 6 + l.block * s.blkLen, len := s.blkLen } s t ∧
      t.resLen = BitVec.ofNat 32 l.data.length ∧
      t.resKey = s.resKey ∧ t.resIdx = s.resIdx ∧ t.resScore = s.resScore ∧
      SameRef s t ∧ SameSetup s t

/-- R185: a CBCDEC that passes its checks issues the DEC request for ciphertext block 0, with the
key bytes; nothing is written yet. The steps of the loop and its locals are the model's choice (log
entry 18). -/
def Obligations.CbcdecIssuesTheFirstRequest : Prop :=
  ∀ s : State, CbcReady .cbcdec (s.argRegion 6 1) s → 0 < s.arg 1 → s.arg 1 % s.blkLen = 0 →
    ∃ t, exec .cbcdec s = .next t ∧ t.engine = .waitEcb ∧
      t.pend = some
        { dir := .dec, key := s.readRegion (s.argRegion 2 3),
          block := s.memRead (s.arg 0) s.blkLen } ∧
      t.progress = .waiting
        { data := s.readRegion (s.argRegion 0 1), key := s.readRegion (s.argRegion 2 3),
          prev := s.readRegion (s.argRegion 4 5), block := 0 } ∧
      t.dirty = some (s.argRegion 6 1) ∧
      SameSp s t ∧ SameRef s t ∧ SameResults s t ∧ SameSetup s t ∧
      t.done = s.done ∧ t.err = s.err ∧ t.errCode = s.errCode

/-- R185: after the answer y to a request that is not the last, CBCDEC writes y XOR the chaining
block and requests the next ciphertext block, whatever y was. The steps of the loop and its locals
are the model's choice (log entry 18). -/
def Obligations.CbcdecContinues : Prop :=
  ∀ (s : State) (l : CbcLocals) (y : List Byte), s.progress = .answered l (.ok y) →
    y.length = s.blkLen → l.prev.length = s.blkLen →
    (l.block + 1) * s.blkLen < l.data.length →
    ∃ t, exec .cbcdec s = .next t ∧ t.engine = .waitEcb ∧
      t.pend = some
        { dir := .dec, key := l.key, block := blk l.data s.blkLen (l.block + 1) } ∧
      t.progress = .waiting
        { l with prev := blk l.data s.blkLen l.block, block := l.block + 1 } ∧
      HoldsAt t (s.arg 6 + l.block * s.blkLen) (xorBytes y l.prev) ∧
      SameSpOutside { addr := s.arg 6 + l.block * s.blkLen, len := s.blkLen } s t ∧
      t.dirty = s.dirty ∧ SameRef s t ∧ SameResults s t ∧ SameSetup s t ∧
      t.done = s.done ∧ t.err = s.err ∧ t.errCode = s.errCode

/-- R185, R207 c: after the answer y to the last request, CBCDEC writes y XOR the chaining block; if
the last decrypted byte p is at most the length it completes with RES_LEN = length - p, else it ends
with E_UNPAD_RANGE (0x0C) and the decrypted bytes stay. The steps of the loop and its locals are the
model's choice (log entry 18). -/
def Obligations.CbcdecCompletes : Prop :=
  ∀ (s : State) (l : CbcLocals) (y : List Byte), s.progress = .answered l (.ok y) →
    y.length = s.blkLen → l.prev.length = s.blkLen → 0 < s.blkLen →
    l.data.length = (l.block + 1) * s.blkLen →
    ∃ t, exec .cbcdec s = .next t ∧
      HoldsAt t (s.arg 6 + l.block * s.blkLen) (xorBytes y l.prev) ∧
      SameSpOutside { addr := s.arg 6 + l.block * s.blkLen, len := s.blkLen } s t ∧
      (((xorBytes y l.prev).getLastD 0).toNat ≤ l.data.length →
        Succeeded t ∧
        t.resLen = BitVec.ofNat 32 (l.data.length - ((xorBytes y l.prev).getLastD 0).toNat)) ∧
      (l.data.length < ((xorBytes y l.prev).getLastD 0).toNat →
        Failed 0x0C t ∧ t.resLen = s.resLen) ∧
      t.resKey = s.resKey ∧ t.resIdx = s.resIdx ∧ t.resScore = s.resScore ∧
      SameRef s t ∧ SameSetup s t

/-- R207 b: after the answer Fail, CBCENC and CBCDEC end with EcbPrimitiveFailure (0x0A); every byte
outside the output region is unchanged, and nothing is said of a byte inside it. The locals of the
loop are the model's choice (log entry 18). -/
def Obligations.EcbFailureLeavesOtherBytes : Prop :=
  ∀ (s : State) (l : CbcLocals) (i : Instr), i = .cbcenc ∨ i = .cbcdec →
    s.progress = .answered l .fail →
    ∃ t, exec i s = .next t ∧ Failed 0x0A t ∧
      SameSpOutside (s.argSized 6 l.data.length) s t ∧
      SameRef s t ∧ SameResults s t ∧ SameSetup s t

/-- R182: an answer of BLKSZ bytes, or Fail, to the outstanding request puts the engine in RUN with PEND
none, and while it waits the engine takes no step. R205 b, R241 d: an answer to any other request
changes nothing, and every request has a greater number than all before it. Answers as inputs, their
numbers and the locals of the loop are the model's choice (log entries 8, 18 and 29). -/
def Obligations.OracleAnswersReachTheWaitingEngine : Prop :=
  (∀ (s : State) (l : CbcLocals) (a : EcbAnswer), s.engine = .waitEcb → s.progress = .waiting l →
    (∀ y, a = .ok y → y.length = s.blkLen) →
    ∃ t, oracleStep s.issued a s = .next t ∧ t.engine = .run ∧ t.pend = none ∧
      t.progress = .answered l a ∧ t.dirty = s.dirty ∧ SameSp s t ∧ SameRef s t ∧
      SameResults s t ∧ SameSetup s t ∧
      t.done = s.done ∧ t.err = s.err ∧ t.errCode = s.errCode) ∧
  (∀ (s : State) (n : Nat) (a : EcbAnswer), s.engine ≠ .waitEcb ∨ n ≠ s.issued →
    oracleStep n a s = .next s) ∧
  (∀ s : State, s.engine = .waitEcb → engineStep s = .next s) ∧
  (∀ s t : State, step s = .next t → s.issued ≤ t.issued ∧
    (s.engine ≠ .waitEcb → t.engine = .waitEcb → s.issued < t.issued))

/-- R184: against an oracle that answers ENC with a function of key and block, CBCENC ends after one
request per block with the CBC encryption of the padded message in dst. How many moves a block takes
is the model's choice (log entry 18). -/
def Obligations.CbcencComputesCbcEncryption : Prop :=
  ∀ (s : State) (enc dec : List Byte → List Byte → List Byte),
    CbcReady .cbcenc (s.argSized 6 (s.arg 1 + padLen (s.arg 1) s.blkLen)) s →
    (∀ k x, x.length = s.blkLen → (enc k x).length = s.blkLen) →
    ∃ t, drive (functionalOracle enc dec)
        (2 * ((s.arg 1 + padLen (s.arg 1) s.blkLen) / s.blkLen) + 1) s = .next t ∧
      Succeeded t ∧ t.resLen = BitVec.ofNat 32 (s.arg 1 + padLen (s.arg 1) s.blkLen) ∧
      HoldsAt t (s.arg 6)
        (cbcEncrypt (enc (s.readRegion (s.argRegion 2 3))) s.blkLen
          (s.readRegion (s.argRegion 4 5)) (s.readRegion (s.argRegion 0 1))) ∧
      SameSpOutside (s.argSized 6 (s.arg 1 + padLen (s.arg 1) s.blkLen)) s t ∧
      SameRef s t ∧ SameSetup s t

/-- R185: against an oracle that answers DEC with a function of key and block, CBCDEC ends after one
request per block with all decrypted bytes in dst; its end is the one that the last of them decides.
How many moves a block takes is the model's choice (log entry 18). -/
def Obligations.CbcdecComputesCbcDecryption : Prop :=
  ∀ (s : State) (enc dec : List Byte → List Byte → List Byte) (raw : List Byte),
    CbcReady .cbcdec (s.argRegion 6 1) s → 0 < s.arg 1 → s.arg 1 % s.blkLen = 0 →
    (∀ k x, x.length = s.blkLen → (dec k x).length = s.blkLen) →
    raw = cbcDecryptRaw (dec (s.readRegion (s.argRegion 2 3))) s.blkLen
      (s.readRegion (s.argRegion 4 5)) (s.readRegion (s.argRegion 0 1)) →
    ∃ t, drive (functionalOracle enc dec) (2 * (s.arg 1 / s.blkLen) + 1) s = .next t ∧
      HoldsAt t (s.arg 6) raw ∧ SameSpOutside (s.argRegion 6 1) s t ∧
      ((raw.getLastD 0).toNat ≤ s.arg 1 →
        Succeeded t ∧ t.resLen = BitVec.ofNat 32 (s.arg 1 - (raw.getLastD 0).toNat)) ∧
      (s.arg 1 < (raw.getLastD 0).toNat → Failed 0x0C t) ∧ SameRef s t ∧ SameSetup s t

/-- R186: CBCENC on M, then CBCDEC on its output with the same key, IV and block size, against an oracle
whose ENC and DEC are inverse and never Fail, gives RES_LEN = len(M) and M at the start of dst. -/
def Obligations.CbcRoundTripRestoresTheMessage : Prop :=
  ∀ (s t u : State) (enc dec : List Byte → List Byte → List Byte) (k1 : Nat),
    bufSizeWellFormed s.bufSize = true →
    CbcReady .cbcenc (s.argSized 6 (s.arg 1 + padLen (s.arg 1) s.blkLen)) s →
    (∀ k x, x.length = s.blkLen → (enc k x).length = s.blkLen ∧ dec k (enc k x) = x) →
    (∀ k x, x.length = s.blkLen → (dec k x).length = s.blkLen) →
    drive (functionalOracle enc dec) k1 s = .next t → t.engine = .idle →
    CbcReady .cbcdec (u.argRegion 6 1) u → u.blkLen = s.blkLen →
    u.arg 1 = t.resLen.toNat →
    u.readRegion (u.argRegion 0 1) = t.memRead (s.arg 6) t.resLen.toNat →
    u.readRegion (u.argRegion 2 3) = s.readRegion (s.argRegion 2 3) →
    u.readRegion (u.argRegion 4 5) = s.readRegion (s.argRegion 4 5) →
    ∃ k2 v, drive (functionalOracle enc dec) k2 u = .next v ∧ Succeeded v ∧
      v.resLen.toNat = s.arg 1 ∧
      v.memRead (u.arg 6) (s.arg 1) = s.readRegion (s.argRegion 0 1)

/-! ## Errors -/

/-- R202, R207 a: a command whose validation fails completes with the code of the first failing check;
SP, REF, REF_VALID and the result registers (0 since START) are unchanged and no request is issued. -/
def Obligations.ValidationErrorsChangeNothing : Prop :=
  ∀ (i : Instr) (s : State) (e : ErrCode), s.progress = .fresh →
    firstFailure (validation i s) = some e →
    ∃ t, exec i s = .next t ∧ FailedCleanly e.code s t ∧ t.draws = s.draws ∧
      t.issued = s.issued

/-- R110, R204: the order of XOR's checks: LengthMismatch (0x05), E_RANGE (0x03), E_OVERLAP (0x04). -/
def Obligations.XorReportsTheFirstFailedCheck : Prop :=
  ∀ s : State,
    (s.arg 1 ≠ s.arg 3 → ∃ t, exec .xor s = .next t ∧ FailedCleanly 0x05 s t) ∧
    (s.arg 1 = s.arg 3 →
      ¬((s.argRegion 0 1).Fits s ∧ (s.argRegion 2 3).Fits s ∧ (s.argRegion 4 1).Fits s) →
      ∃ t, exec .xor s = .next t ∧ FailedCleanly 0x03 s t) ∧
    (s.arg 1 = s.arg 3 →
      (s.argRegion 0 1).Fits s ∧ (s.argRegion 2 3).Fits s ∧ (s.argRegion 4 1).Fits s →
      ¬((s.argRegion 4 1).Apart (s.argRegion 0 1) ∧ (s.argRegion 4 1).Apart (s.argRegion 2 3)) →
      ∃ t, exec .xor s = .next t ∧ FailedCleanly 0x04 s t)

/-- R111, R124 to R128, R151 to R154, R204: the errors of RXOR and of the commands on texts, each at its
place in the order of its rule; a descriptor entry's range comes before its emptiness, entry by entry. -/
def Obligations.TextCommandsReportTheFirstFailedCheck : Prop :=
  ∀ s : State,
    -- RXOR
    (s.arg 1 = 0 → EndsWith .rxor 0x0B s) ∧
    (0 < s.arg 1 →
      ¬((s.argRegion 0 1).Fits s ∧ (s.argRegion 2 3).Fits s ∧ (s.argRegion 4 3).Fits s) →
      EndsWith .rxor 0x03 s) ∧
    (0 < s.arg 1 →
      (s.argRegion 0 1).Fits s ∧ (s.argRegion 2 3).Fits s ∧ (s.argRegion 4 3).Fits s →
      ¬((s.argRegion 4 3).Apart (s.argRegion 0 1) ∧ (s.argRegion 4 3).Apart (s.argRegion 2 3)) →
      EndsWith .rxor 0x04 s) ∧
    -- HIST
    (¬((s.argRegion 0 1).Fits s ∧ (s.argSized 2 1028).Fits s) → EndsWith .hist 0x03 s) ∧
    ((s.argRegion 0 1).Fits s ∧ (s.argSized 2 1028).Fits s →
      ¬(s.argSized 2 1028).Apart (s.argRegion 0 1) → EndsWith .hist 0x04 s) ∧
    -- RELFREQ
    (s.arg 1 = 0 → EndsWith .relfreq 0x06 s) ∧
    (0 < s.arg 1 → ¬((s.argRegion 0 1).Fits s ∧ (s.argSized 2 2056).Fits s) →
      EndsWith .relfreq 0x03 s) ∧
    (0 < s.arg 1 → (s.argRegion 0 1).Fits s ∧ (s.argSized 2 2056).Fits s →
      ¬(s.argSized 2 2056).Apart (s.argRegion 0 1) → EndsWith .relfreq 0x04 s) ∧
    -- BCOEF
    (¬((s.argSized 0 2048).Fits s ∧ (s.argSized 1 2048).Fits s) → EndsWith .bcoef 0x03 s) ∧
    (∀ v, (s.argSized 0 2048).Fits s ∧ (s.argSized 1 2048).Fits s → v < 256 →
      BadWeight (s.f64At (s.arg 0 + 8 * v)) ∨ BadWeight (s.f64At (s.arg 1 + 8 * v)) →
      EndsWith .bcoef 0x0E s) ∧
    -- SCORE
    (s.arg 1 = 0 → EndsWith .score 0x06 s) ∧
    (0 < s.arg 1 → s.snap.refValid = false → EndsWith .score 0x0D s) ∧
    (0 < s.arg 1 → s.snap.refValid = true → ¬(s.argRegion 0 1).Fits s → EndsWith .score 0x03 s) ∧
    -- LDREF
    (¬(s.argSized 0 2048).Fits s → EndsWith .ldref 0x03 s) ∧
    -- XSCORE
    (s.arg 1 = 0 → EndsWith .xscore 0x0B s) ∧
    (0 < s.arg 1 → s.arg 3 = 0 → EndsWith .xscore 0x06 s) ∧
    (0 < s.arg 1 → 0 < s.arg 3 → s.snap.refValid = false → EndsWith .xscore 0x0D s) ∧
    (0 < s.arg 1 → 0 < s.arg 3 → s.snap.refValid = true →
      ¬((s.argRegion 0 1).Fits s ∧ (s.argRegion 2 3).Fits s ∧ (s.argRegion 4 3).Fits s) →
      EndsWith .xscore 0x03 s) ∧
    (0 < s.arg 1 → 0 < s.arg 3 → s.snap.refValid = true →
      (s.argRegion 0 1).Fits s ∧ (s.argRegion 2 3).Fits s ∧ (s.argRegion 4 3).Fits s →
      ¬((s.argRegion 4 3).Apart (s.argRegion 0 1) ∧ (s.argRegion 4 3).Apart (s.argRegion 2 3)) →
      EndsWith .xscore 0x04 s) ∧
    -- BESTXOR
    (s.arg 1 = 0 ∨ s.arg 3 = 0 → EndsWith .bestxor 0x06 s) ∧
    (0 < s.arg 1 → 0 < s.arg 3 → s.snap.refValid = false → EndsWith .bestxor 0x0D s) ∧
    (0 < s.arg 1 → 0 < s.arg 3 → s.snap.refValid = true →
      ¬(s.descTable.Fits s ∧ (s.argRegion 2 3).Fits s ∧ (s.argRegion 4 3).Fits s) →
      EndsWith .bestxor 0x03 s) ∧
    (0 < s.arg 1 → 0 < s.arg 3 → s.snap.refValid = true →
      s.descTable.Fits s ∧ (s.argRegion 2 3).Fits s ∧ (s.argRegion 4 3).Fits s →
      (∀ j, j < s.arg 1 → (∀ k, k < j → (s.descEntry k).Fits s ∧ 0 < (s.descEntry k).len) →
        (¬(s.descEntry j).Fits s → EndsWith .bestxor 0x03 s) ∧
        ((s.descEntry j).Fits s → (s.descEntry j).len = 0 → EndsWith .bestxor 0x0B s)) ∧
      ((∀ j, j < s.arg 1 → (s.descEntry j).Fits s ∧ 0 < (s.descEntry j).len) →
        ¬((s.argRegion 4 3).Apart s.descTable ∧ (s.argRegion 4 3).Apart (s.argRegion 2 3) ∧
          ∀ j, j < s.arg 1 → (s.argRegion 4 3).Apart (s.descEntry j)) →
        EndsWith .bestxor 0x04 s)) ∧
    -- SBXOR
    (s.arg 1 = 0 → EndsWith .sbxor 0x06 s) ∧
    (0 < s.arg 1 → s.snap.refValid = false → EndsWith .sbxor 0x0D s) ∧
    (0 < s.arg 1 → s.snap.refValid = true →
      ¬((s.argRegion 0 1).Fits s ∧ (s.argRegion 2 1).Fits s) → EndsWith .sbxor 0x03 s) ∧
    (0 < s.arg 1 → s.snap.refValid = true →
      (s.argRegion 0 1).Fits s ∧ (s.argRegion 2 1).Fits s →
      ¬(s.argRegion 2 1).Apart (s.argRegion 0 1) → EndsWith .sbxor 0x04 s) ∧
    -- DETECT, with M the greatest length of a line
    (s.arg 1 = 0 → EndsWith .detect 0x06 s) ∧
    (0 < s.arg 1 → s.snap.refValid = false → EndsWith .detect 0x0D s) ∧
    (0 < s.arg 1 → s.snap.refValid = true → ¬s.descTable.Fits s → EndsWith .detect 0x03 s) ∧
    (0 < s.arg 1 → s.snap.refValid = true → s.descTable.Fits s →
      (∀ j, j < s.arg 1 → (∀ k, k < j → (s.descEntry k).Fits s ∧ 0 < (s.descEntry k).len) →
        (¬(s.descEntry j).Fits s → EndsWith .detect 0x03 s) ∧
        ((s.descEntry j).Fits s → (s.descEntry j).len = 0 → EndsWith .detect 0x06 s)) ∧
      (∀ M, (∀ j, j < s.arg 1 →
          (s.descEntry j).Fits s ∧ 0 < (s.descEntry j).len ∧ (s.descEntry j).len ≤ M) →
        (∃ j, j < s.arg 1 ∧ (s.descEntry j).len = M) →
        (¬(s.argSized 2 M).Fits s → EndsWith .detect 0x03 s) ∧
        ((s.argSized 2 M).Fits s →
          ¬((s.argSized 2 M).Apart s.descTable ∧
            ∀ j, j < s.arg 1 → (s.argSized 2 M).Apart (s.descEntry j)) →
          EndsWith .detect 0x04 s)))

/-- R170, R171, R184, R185, R204: the errors of PAD, UNPAD, CBCENC and CBCDEC, each at its place in the
order of its rule; p is UNPAD's last byte, and L a padded length. -/
def Obligations.BlockCommandsReportTheFirstFailedCheck : Prop :=
  ∀ (s : State) (p L : Nat), p = (s.byteAt (s.arg 0 + s.arg 1 - 1)).toNat →
    L = s.arg 1 + (s.blkLen - s.arg 1 % s.blkLen) →
    -- PAD
    (s.blkLen = 0 → EndsWith .pad 0x02 s) ∧
    (0 < s.blkLen → ¬((s.argRegion 0 1).Fits s ∧ (s.argSized 2 L).Fits s) →
      EndsWith .pad 0x03 s) ∧
    (0 < s.blkLen → (s.argRegion 0 1).Fits s ∧ (s.argSized 2 L).Fits s →
      ¬(s.argSized 2 L).Apart (s.argRegion 0 1) → EndsWith .pad 0x04 s) ∧
    -- UNPAD
    (s.arg 1 = 0 → EndsWith .unpad 0x0C s) ∧
    (0 < s.arg 1 → ¬(s.argRegion 0 1).Fits s → EndsWith .unpad 0x03 s) ∧
    (0 < s.arg 1 → (s.argRegion 0 1).Fits s → s.arg 1 < p → EndsWith .unpad 0x0C s) ∧
    (0 < s.arg 1 → (s.argRegion 0 1).Fits s → p ≤ s.arg 1 →
      ¬(s.argSized 2 (s.arg 1 - p)).Fits s → EndsWith .unpad 0x03 s) ∧
    (0 < s.arg 1 → (s.argRegion 0 1).Fits s → p ≤ s.arg 1 →
      (s.argSized 2 (s.arg 1 - p)).Fits s →
      ¬(s.argSized 2 (s.arg 1 - p)).Apart (s.argRegion 0 1) → EndsWith .unpad 0x04 s) ∧
    (s.progress = .fresh →
      -- CBCENC
      (s.blkLen = 0 → EndsWith .cbcenc 0x02 s) ∧
      (0 < s.blkLen → s.arg 5 ≠ s.blkLen → EndsWith .cbcenc 0x08 s) ∧
      (0 < s.blkLen → s.arg 5 = s.blkLen →
        ¬((s.argRegion 0 1).Fits s ∧ (s.argRegion 2 3).Fits s ∧ (s.argRegion 4 5).Fits s ∧
          (s.argSized 6 L).Fits s) → EndsWith .cbcenc 0x03 s) ∧
      (0 < s.blkLen → s.arg 5 = s.blkLen →
        (s.argRegion 0 1).Fits s ∧ (s.argRegion 2 3).Fits s ∧ (s.argRegion 4 5).Fits s ∧
          (s.argSized 6 L).Fits s →
        ¬((s.argSized 6 L).Apart (s.argRegion 0 1) ∧ (s.argSized 6 L).Apart (s.argRegion 2 3) ∧
          (s.argSized 6 L).Apart (s.argRegion 4 5)) → EndsWith .cbcenc 0x04 s) ∧
      -- CBCDEC
      (s.blkLen = 0 → EndsWith .cbcdec 0x02 s) ∧
      (0 < s.blkLen → s.arg 5 ≠ s.blkLen → EndsWith .cbcdec 0x08 s) ∧
      (0 < s.blkLen → s.arg 5 = s.blkLen → s.arg 1 % s.blkLen ≠ 0 → EndsWith .cbcdec 0x09 s) ∧
      (0 < s.blkLen → s.arg 5 = s.blkLen → s.arg 1 = 0 → EndsWith .cbcdec 0x0C s) ∧
      (0 < s.blkLen → s.arg 5 = s.blkLen → s.arg 1 % s.blkLen = 0 → 0 < s.arg 1 →
        ¬((s.argRegion 0 1).Fits s ∧ (s.argRegion 2 3).Fits s ∧ (s.argRegion 4 5).Fits s ∧
          (s.argRegion 6 1).Fits s) → EndsWith .cbcdec 0x03 s) ∧
      (0 < s.blkLen → s.arg 5 = s.blkLen → s.arg 1 % s.blkLen = 0 → 0 < s.arg 1 →
        (s.argRegion 0 1).Fits s ∧ (s.argRegion 2 3).Fits s ∧ (s.argRegion 4 5).Fits s ∧
          (s.argRegion 6 1).Fits s →
        ¬((s.argRegion 6 1).Apart (s.argRegion 0 1) ∧ (s.argRegion 6 1).Apart (s.argRegion 2 3) ∧
          (s.argRegion 6 1).Apart (s.argRegion 4 5)) → EndsWith .cbcdec 0x04 s))

/-! ## Host port -/

/-- R30: a write of CTRL with bit 0 set and bit 1 clear while idle takes the snapshot, clears DONE,
ERR, ERRCODE and the result registers, and makes the engine RUN. R39 d, R93, R245: from here on the bytes
of the command's output region are DIRTY, whether or not its checks will pass. Where the response is seen,
when DIRTY begins and which commands have no output region are the model's choice (log entries 9, 6 and
17). -/
def Obligations.StartTakesTheSnapshot : Prop :=
  ∀ (s : State) (v : Word), s.engine = .idle → v.getLsbD 0 = true → v.getLsbD 1 = false →
    let t := hostWrite 0x008 .word v s
    t.snap.cmd = s.cmd ∧ t.snap.args = s.args ∧ t.snap.blksz = s.blksz ∧ t.snap.sym = s.sym ∧
      t.snap.ref = s.ref ∧ t.snap.refValid = s.refValid ∧
      t.done = false ∧ t.err = false ∧ t.errCode = 0 ∧
      t.resLen = 0 ∧ t.resKey = 0 ∧ t.resIdx = 0 ∧ t.resScore = 0 ∧
      t.engine = .run ∧ SameSp s t ∧ SameRef s t ∧
      t.sym = s.sym ∧ t.ie = s.ie ∧ t.cmd = s.cmd ∧ t.blksz = s.blksz ∧ t.args = s.args ∧
      t.hostResp = some .ok ∧
      -- DIRTY, with p the last byte of UNPAD and M the greatest length of a line of DETECT
      (decode s.cmd = .ok .xor → DirtyIs (t.argRegion 4 1) t) ∧
      (decode s.cmd = .ok .rxor → DirtyIs (t.argRegion 4 3) t) ∧
      (decode s.cmd = .ok .hist → DirtyIs (t.argSized 2 1028) t) ∧
      (decode s.cmd = .ok .relfreq → DirtyIs (t.argSized 2 2056) t) ∧
      (decode s.cmd = .ok .xscore → DirtyIs (t.argRegion 4 3) t) ∧
      (decode s.cmd = .ok .bestxor → DirtyIs (t.argRegion 4 3) t) ∧
      (decode s.cmd = .ok .sbxor → DirtyIs (t.argRegion 2 1) t) ∧
      (∀ M, decode s.cmd = .ok .detect → t.descTable.Fits t →
        (∀ j, j < t.arg 1 → (t.descEntry j).len ≤ M) →
        (∃ j, j < t.arg 1 ∧ (t.descEntry j).len = M) → DirtyIs (t.argSized 2 M) t) ∧
      (decode s.cmd = .ok .pad → 0 < t.blkLen →
        DirtyIs (t.argSized 2 (t.arg 1 + (t.blkLen - t.arg 1 % t.blkLen))) t) ∧
      (∀ p, decode s.cmd = .ok .unpad → 0 < t.arg 1 → (t.argRegion 0 1).Fits t →
        p = (t.byteAt (t.arg 0 + t.arg 1 - 1)).toNat → p ≤ t.arg 1 →
        DirtyIs (t.argSized 2 (t.arg 1 - p)) t) ∧
      (decode s.cmd = .ok .cbcenc → 0 < t.blkLen →
        DirtyIs (t.argSized 6 (t.arg 1 + (t.blkLen - t.arg 1 % t.blkLen))) t) ∧
      (decode s.cmd = .ok .cbcdec → DirtyIs (t.argRegion 6 1) t) ∧
      -- no output region in SP
      ((∃ e, decode s.cmd = .error e) ∨ decode s.cmd = .ok .bcoef ∨ decode s.cmd = .ok .score ∨
          decode s.cmd = .ok .ldref ∨
          ((decode s.cmd = .ok .pad ∨ decode s.cmd = .ok .cbcenc) ∧ t.blkLen = 0) ∨
          (decode s.cmd = .ok .unpad ∧ (t.arg 1 = 0 ∨ ¬(t.argRegion 0 1).Fits t ∨
            t.arg 1 < (t.byteAt (t.arg 0 + t.arg 1 - 1)).toNat)) ∨
          (decode s.cmd = .ok .detect ∧ (t.arg 1 = 0 ∨ ¬t.descTable.Fits t)) →
        ∀ a, t.isDirty a = false)

/-- R241: a write of CTRL with bit 1 set gives every register its power-on value, keeps REF, keeps
every byte of SP outside the DIRTY region of a running command, abandons the request and makes the
engine IDLE. That DIRTY begins at START, and where it is none, are the model's reading (log entries 6, 17
and 21). -/
def Obligations.SoftResetClearsTheRegisters : Prop :=
  ∀ (s : State) (v : Word), v.getLsbD 1 = true →
    let t := hostWrite 0x008 .word v s
    t.sym = false ∧ t.statusWord = 0 ∧ t.ie = false ∧ t.cmd = 0 ∧ t.blksz = 16 ∧
      (∀ i, t.args.get i = 0) ∧ t.resLen = 0 ∧ t.resKey = 0 ∧ t.resIdx = 0 ∧ t.resScore = 0 ∧
      t.refValid = false ∧ t.ref = s.ref ∧ t.engine = .idle ∧ t.pend = none ∧ t.dirty = none ∧
      t.irq = false ∧ t.bufSize = s.bufSize ∧
      (s.engine = .idle ∨ s.dirty = none → SameSp s t) ∧
      (∀ r, s.dirty = some r → SameSpOutside r s t)

/-- R25: a write of STATUS with bit 1 set clears DONE, ERR and ERRCODE together, and one with bit 1 clear
has no effect.Where the response is seen (R66) is the model's choice (log entry 9). -/
def Obligations.ClearDoneClearsTheThreeFields : Prop :=
  ∀ (s : State) (v : Word), s.engine = .idle →
    (v.getLsbD 1 = true →
      hostWrite 0x00C .word v s
        = { s with done := false, err := false, errCode := 0, hostResp := some .ok }) ∧
    (v.getLsbD 1 = false → hostWrite 0x00C .word v s = { s with hostResp := some .ok })

/-- R67, R68: while BUSY an aligned register write that does not set SRST changes nothing but
INTEN.IE, and a scratchpad write changes nothing; the response is OK. Where the response is seen,
and a STATUS write in a BUSY state that no run reaches, are the model's choice (log entries 9 and
20). -/
def Obligations.BusyDropsHostWrites : Prop :=
  ∀ (s : State) (off v : Word), s.busy = true →
    (off.toNat < 0x1000 → off.toNat % 4 = 0 → (off = 0x008#32 → v.getLsbD 1 = false) →
      off ≠ 0x010#32 → hostWrite off .word v s = { s with hostResp := some .ok }) ∧
    (off = 0x010#32 → hostWrite off .word v s
      = { s with ie := v.getLsbD 0, hostResp := some .ok }) ∧
    (∀ w : Width, 0x10000 ≤ off.toNat → (off.toNat - 0x10000) % w.bytes = 0 →
      off.toNat - 0x10000 + w.bytes ≤ s.bufSize →
      hostWrite off w v s = { s with hostResp := some .ok })

/-- R23, R26, R27, R28, R29: while idle, CFG keeps bit 0, INTEN bit 0, BLKSZ bits 7:0 and CMD and the ARG
registers all bits of a written word, and a host read of each returns them. Where the response is seen
is the model's choice (log entry 9). -/
def Obligations.RegistersReadBackTheirWrittenBits : Prop :=
  ∀ (s : State) (v : Word), s.engine = .idle →
    (hostRead 0x004 .word (hostWrite 0x004 .word v s)).hostResp = some (.value (v &&& 1)) ∧
    (hostRead 0x010 .word (hostWrite 0x010 .word v s)).hostResp = some (.value (v &&& 1)) ∧
    (hostRead 0x018 .word (hostWrite 0x018 .word v s)).hostResp = some (.value (v &&& 0xFF)) ∧
    (hostRead 0x014 .word (hostWrite 0x014 .word v s)).hostResp = some (.value v) ∧
    (∀ (i : Fin 8) (off : Word), off.toNat = 0x020 + 4 * i.val →
      (hostRead off .word (hostWrite off .word v s)).hostResp = some (.value v))

/-- R22, R24, R25, R31 to R36: a write to ID, a result register, REF_VALID_REG, BUF_SIZE_REG, a reserved
offset or the REF window is ignored; a host read of each, and of CTRL and STATUS, returns its value, a
reserved offset's being 0. Where the response is seen is the model's choice (log entry 9). -/
def Obligations.ReadOnlyOffsetsIgnoreWrites : Prop :=
  (∀ (s : State) (off v : Word), off.toNat < 0x1000 → off.toNat % 4 = 0 →
    (off.toNat = 0 ∨ off.toNat = 0x01C ∨ 0x040 ≤ off.toNat →
      hostWrite off .word v s = { s with hostResp := some .ok }) ∧
    (off.toNat = 0x01C ∨ off.toNat = 0x04C ∨ (0x060 ≤ off.toNat ∧ off.toNat < 0x800) →
      (hostRead off .word s).hostResp = some (.value 0))) ∧
  ∀ s : State,
    (hostRead 0x000 .word s).hostResp = some (.value 0x4D584331) ∧
    (hostRead 0x008 .word s).hostResp = some (.value 0) ∧
    (hostRead 0x00C .word s).hostResp = some (.value s.statusWord) ∧
    (hostRead 0x040 .word s).hostResp = some (.value s.resLen) ∧
    (hostRead 0x044 .word s).hostResp = some (.value (s.resKey.setWidth 32)) ∧
    (hostRead 0x048 .word s).hostResp = some (.value s.resIdx) ∧
    (hostRead 0x050 .word s).hostResp = some (.value (s.resScore.extractLsb' 0 32)) ∧
    (hostRead 0x054 .word s).hostResp = some (.value (s.resScore.extractLsb' 32 32)) ∧
    (hostRead 0x058 .word s).hostResp = some (.value (if s.refValid then 1 else 0)) ∧
    (hostRead 0x05C .word s).hostResp = some (.value (BitVec.ofNat 32 s.bufSize)) ∧
    ∀ (i : Fin 256) (off : Word),
      (off.toNat = 0x800 + 8 * i.val →
        (hostRead off .word s).hostResp = some (.value ((s.ref.get i).extractLsb' 0 32))) ∧
      (off.toNat = 0x800 + 8 * i.val + 4 →
        (hostRead off .word s).hostResp = some (.value ((s.ref.get i).extractLsb' 32 32)))

/-- R63, R64, R65: an access that is neither an aligned 32-bit access below 0x1000 nor a naturally
aligned access inside the scratchpad gets BUSERR and has no other effect. Where the response is seen is
the model's choice (log entry 9). -/
def Obligations.BusErrorHasNoEffect : Prop :=
  ∀ (s : State) (off v : Word) (w : Width),
    ¬(off.toNat < 0x1000 ∧ w = .word ∧ off.toNat % 4 = 0) →
    ¬(0x10000 ≤ off.toNat ∧ (off.toNat - 0x10000) % w.bytes = 0 ∧
      off.toNat - 0x10000 + w.bytes ≤ s.bufSize) →
    hostRead off w s = { s with hostResp := some .busErr } ∧
      hostWrite off w v s = { s with hostResp := some .busErr }

/-- R65: while idle, a scratchpad write in range stores byte i of the value at a + i and no other byte,
and reading back with the same width gives the value modulo 256^w. Where the response is seen is the
model's choice (log entry 9). -/
def Obligations.ScratchpadAccessIsLittleEndian : Prop :=
  ∀ (s : State) (off v : Word) (w : Width) (a : Nat), s.engine = .idle →
    off.toNat = 0x10000 + a → a % w.bytes = 0 → a + w.bytes ≤ s.bufSize →
    let t := hostWrite off w v s
    (∀ i, i < w.bytes → t.byteAt (a + i) = v.extractLsb' (8 * i) 8) ∧
      SameSpOutside { addr := a, len := w.bytes } s t ∧
      (hostRead off w t).hostResp = some (.value (BitVec.ofNat 32 (v.toNat % 256 ^ w.bytes)))

/-- R65, R68, R245: no host read changes a byte, a register or the engine; a scratchpad read of any width
gives each byte outside DIRTY its current value, and each byte inside DIRTY (while BUSY) a free value, of
which no two reads share one (S3). The counting of free values and where the response is seen are the
model's choice (log entries 9, 11 and 24). -/
def Obligations.HostReadsChangeNothing : Prop :=
  ∀ (s : State) (off : Word) (w : Width),
    (∃ r d, hostRead off w s = { s with hostResp := some r, draws := d }) ∧
    (∀ a, off.toNat = 0x10000 + a → a % w.bytes = 0 → a + w.bytes ≤ s.bufSize →
      (∃ v : Word, (hostRead off w s).hostResp = some (.value v) ∧ v.toNat < 256 ^ w.bytes ∧
        (∀ i, i < w.bytes → s.isDirty (a + i) = false →
          v.extractLsb' (8 * i) 8 = s.byteAt (a + i)) ∧
        (∀ i, i < w.bytes → s.isDirty (a + i) = true →
          v.extractLsb' (8 * i) 8 = Config.freeByte (s.draws + i))) ∧
      (s.busy = true → (hostRead off w s).draws = s.draws + w.bytes))

/-- R25, R212: the fields of STATUS, and IRQ = IE AND DONE. -/
def Obligations.StatusWordShowsTheFields : Prop :=
  ∀ s : State, s.statusWord.getLsbD 0 = s.busy ∧ s.statusWord.getLsbD 1 = s.done ∧
    s.statusWord.getLsbD 2 = s.err ∧ s.statusWord.getLsbD 3 = s.ecbWait ∧
    s.statusWord.extractLsb' 4 4 = 0 ∧ s.statusWord.extractLsb' 8 8 = s.errCode ∧
    s.statusWord.extractLsb' 16 16 = 0 ∧ (s.irq = true ↔ s.ie = true ∧ s.done = true)

/-- R97: the transactions of a command statement, performed on an idle machine, start exactly that
command with exactly those operands. The input list and the polling loop in it are the model's
choice (log entries 7 and 15). -/
def Obligations.CommandStatementStartsItsCommand : Prop :=
  ∀ (s : State) (i : Instr) (vs : List Nat) (prog : List Input), s.engine = .idle →
    operandsWellFormed i vs = true → (AsmStmt.command i vs).expand = some prog →
    ∃ t, Host.Core.run core (vs.length + 2) { s with inputs := prog } = .next t ∧
      t.engine = .run ∧ t.progress = .fresh ∧ t.fetch = .ok i ∧
      (∀ j : Fin 8, ∀ h : j.val < vs.length, t.arg j = vs[j.val]) ∧ t.inputs = [.hostWait] ∧
      SameSp s t ∧ t.snap.blksz = s.blksz ∧ t.snap.sym = s.sym

/-! ## Reset and invariants -/

/-- R240: the values that power-on reset gives, in the state after reset and after a power-on reset of
any state at any time, which keeps BUF_SIZE. The free values of SP and REF, the input that stands for the
reset and the number of resets are the model's choice (log entries 1, 2 and 13). -/
def Obligations.ResetGivesThePowerOnValues : Prop :=
  PowerOnValues State.reset ∧
  ∀ (s : State) (rest : List Input), s.inputs = .powerOn :: rest →
    ∃ t, step s = .next t ∧ PowerOnValues t ∧ t.bufSize = s.bufSize ∧ t.inputs = rest ∧
      t.epoch = s.epoch + 1

/-- The invariant holds after reset (R240). BUF_SIZE is 65536 there, the model's choice (log entry
3). -/
def Obligations.InvariantHoldsAtReset : Prop := State.Inv State.reset

/-- Every step keeps the invariant, whatever the host, the oracle and the platform do. When DIRTY
begins and where it is none, the locals of the CBC loops and the memory's data form are the model's
choice (log entries 6, 17, 18 and 22). -/
def Obligations.EveryStepKeepsTheInvariant : Prop :=
  ∀ s t : State, State.Inv s → step s = .next t → State.Inv t

/-- R69, R73, W3: while a command runs, no step changes a byte of the scratchpad outside DIRTY,
unless it is a power-on reset. When DIRTY begins, and where it is none, are the model's reading (log
entries 6 and 17). -/
def Obligations.RunningCommandWritesOnlyDirty : Prop :=
  ∀ s t : State, State.Inv s → s.busy = true → step s = .next t →
    s.inputs.head? ≠ some .powerOn →
    ∀ a, (∀ r, s.dirty = some r → r.Excludes a) → t.byteAt a = s.byteAt a

/-- R36, R37: a step changes REF, or sets REF_VALID, only if it is a power-on reset or a turn of the
engine that runs LDREF. -/
def Obligations.OnlyLdrefWritesTheReferenceTable : Prop :=
  ∀ s t : State, step s = .next t →
    t.ref ≠ s.ref ∨ (t.refValid = true ∧ s.refValid = false) →
    s.inputs.head? = some .powerOn ∨
      ((s.inputs = [] ∨ s.inputs.head? = some .engine) ∧ s.engine = .run ∧ s.fetch = .ok .ldref)

/-- R30, R73: a command is a function of its snapshot, the scratchpad and the engine's progress. Two
running states that agree on these, and differ in any register, REF, REF_VALID, result register or field
of STATUS, take the command to states that agree on SP and the engine; a result register, REF or
REF_VALID is written alike in both or in neither; on completion STATUS agrees, and before it STATUS
stays. The free values of SP and of the draws have the same numbers in both (log entries 1 and 11), and
the progress has the model's form (log entry 18). -/
def Obligations.CommandsAreFunctionsOfTheSnapshot : Prop :=
  ∀ (i : Instr) (s u t w : State), s.engine = .run → u.engine = .run → u.snap = s.snap →
    u.sp = s.sp → u.epoch = s.epoch → u.bufSize = s.bufSize → u.progress = s.progress →
    u.pend = s.pend → u.dirty = s.dirty → u.draws = s.draws →
    exec i s = .next t → exec i u = .next w →
    w.sp = t.sp ∧ w.engine = t.engine ∧ w.pend = t.pend ∧ w.dirty = t.dirty ∧
      w.progress = t.progress ∧ w.draws = t.draws ∧
      WroteAlike s.resLen u.resLen t.resLen w.resLen ∧
      WroteAlike s.resKey u.resKey t.resKey w.resKey ∧
      WroteAlike s.resIdx u.resIdx t.resIdx w.resIdx ∧
      WroteAlike s.resScore u.resScore t.resScore w.resScore ∧
      WroteAlike s.ref u.ref t.ref w.ref ∧ WroteAlike s.refValid u.refValid t.refValid w.refValid ∧
      (t.engine = .idle → w.statusWord = t.statusWord) ∧
      (t.engine ≠ .idle → t.done = s.done ∧ t.err = s.err ∧ t.errCode = s.errCode ∧
        w.done = u.done ∧ w.err = u.err ∧ w.errCode = u.errCode) ∧
      SameSetup s t ∧ SameSetup u w
end

