-- ==== Sys2Proof/Laws/Bytes.lean ====
section
/-! SUPPORT. The small lemmas of byte sequences and little-endian fields. -/

namespace Sys2Proof.Machine

@[simp] theorem xorBytes_length (a b : List Byte) :
    (xorBytes a b).length = min a.length b.length := by simp [xorBytes]

theorem xorBytes_getElem? (a b : List Byte) (i : Nat) :
    (xorBytes a b)[i]? = (a[i]?.bind fun x => b[i]?.map fun y => x ^^^ y) := by
  simp only [xorBytes, List.getElem?_zipWith]
  cases a[i]? <;> cases b[i]? <;> rfl

/-- Exclusive-or undoes itself (R112). -/
theorem xorBytes_self_inverse (a b : List Byte) (h : a.length = b.length) :
    xorBytes (xorBytes a b) b = a := by
  induction a generalizing b with
  | nil => cases b <;> rfl
  | cons x xs ih =>
    cases b with
    | nil => simp at h
    | cons y ys =>
      have hxy : x ^^^ y ^^^ y = x := by rw [BitVec.xor_assoc, BitVec.xor_self, BitVec.xor_zero]
      have := ih ys (by simpa using h)
      simp only [xorBytes, List.zipWith_cons_cons, List.cons.injEq] at this ⊢
      exact ⟨hxy, this⟩

@[simp] theorem cyc_length (k : List Byte) (n : Nat) : (cyc k n).length = n := by simp [cyc]

@[simp] theorem rxorBytes_length (k m : List Byte) : (rxorBytes k m).length = m.length := by
  simp [rxorBytes]

@[simp] theorem leBytes_length (n v : Nat) : (leBytes n v).length = n := by
  induction n generalizing v with
  | zero => rfl
  | succ n ih => simp [leBytes, ih]

theorem leNat_lt (bs : List Byte) : leNat bs < 256 ^ bs.length := by
  induction bs with
  | nil => simp [leNat]
  | cons b bs ih =>
    have := b.isLt
    simp only [leNat, List.length_cons, pow_succ]
    omega

/-- Writing a little-endian field and reading it gives the value back, modulo its size (R62). -/
theorem leNat_leBytes (n v : Nat) : leNat (leBytes n v) = v % 256 ^ n := by
  induction n generalizing v with
  | zero => simp [leBytes, leNat, Nat.mod_one]
  | succ n ih =>
    have h := Nat.mod_mul (x := v) (a := 256) (b := 256 ^ n)
    rw [Nat.pow_succ', h]
    simp [leBytes, leNat, ih]

theorem blk_length (s : List Byte) (b i : Nat) (h : (i + 1) * b ≤ s.length) :
    (blk s b i).length = b := by
  have : (i + 1) * b = i * b + b := by ring
  simp only [blk, List.length_take, List.length_drop]
  omega

theorem padLen_pos (n b : Nat) (h : 0 < b) : 0 < padLen n b := by
  have := Nat.mod_lt n h
  simp only [padLen]
  omega

theorem padLen_le (n b : Nat) : padLen n b ≤ b := Nat.sub_le _ _

@[simp] theorem padBytes_length (m : List Byte) (b : Nat) :
    (padBytes m b).length = m.length + padLen m.length b := by simp [padBytes]

/-- A padded message is a whole number of blocks (R170). -/
theorem dvd_padBytes_length (m : List Byte) (b : Nat) (h : 0 < b) :
    b ∣ (padBytes m b).length := by
  have hlt := Nat.mod_lt m.length h
  have hd := Nat.div_add_mod m.length b
  refine ⟨m.length / b + 1, ?_⟩
  simp only [padBytes_length, padLen, Nat.mul_add, Nat.mul_one]
  omega

@[simp] theorem unpadBytes_length (d : List Byte) :
    (unpadBytes d).length = d.length - (d.getLastD 0).toNat := by
  simp [unpadBytes]

end Sys2Proof.Machine
end

