-- ==== Sys2Proof/Laws/Memory.lean ====
section
/-! SUPPORT. The laws of the scratchpad: reading after writing, and the canonical form. -/

namespace Sys2Proof.Machine

theorem mem_cellsFrom (a : Nat) (bs : List Byte) (c : Host.Cell) (h : c ∈ cellsFrom a bs) :
    a ≤ c.1 ∧ c.1 < a + bs.length := by
  induction bs generalizing a with
  | nil => simp [cellsFrom] at h
  | cons b bs ih =>
    simp only [cellsFrom, List.mem_cons] at h
    rcases h with rfl | h
    · simp
    · have := ih (a + 1) h
      simp only [List.length_cons]
      omega

theorem cellsFrom_pairwise (a : Nat) (bs : List Byte) :
    (cellsFrom a bs).Pairwise (fun c d => c.1 < d.1) := by
  induction bs generalizing a with
  | nil => simp [cellsFrom]
  | cons b bs ih =>
    simp only [cellsFrom, List.pairwise_cons]
    refine ⟨fun c hc => ?_, ih (a + 1)⟩
    have := mem_cellsFrom _ _ _ hc
    omega

/-- A write keeps the canonical form. -/
theorem Memory.write_wf (m : Memory) (a : Nat) (bs : List Byte) (h : m.wf = true) :
    (m.write a bs).wf = true := by
  have hm : m.cells.Pairwise (fun c d => c.1 < d.1) := by simpa [Memory.wf] using h
  have hlow := hm.filter (fun c => decide (c.1 < a))
  have hhigh := hm.filter (fun c => decide (a + bs.length ≤ c.1))
  simp only [Memory.wf, Memory.write, decide_eq_true_eq, List.pairwise_append]
  refine ⟨⟨hlow, cellsFrom_pairwise a bs, ?_⟩, hhigh, ?_⟩
  · intro c hc d hd
    have hd' := mem_cellsFrom _ _ _ hd
    simp only [List.mem_filter, decide_eq_true_eq] at hc
    omega
  · intro c hc d hd
    simp only [List.mem_filter, decide_eq_true_eq, List.mem_append] at hc hd
    rcases hc with hc | hc
    · omega
    · have := mem_cellsFrom _ _ _ hc
      omega

/-- A write inside a bound keeps every listed address inside it. -/
theorem Memory.write_bounded (m : Memory) (a n : Nat) (bs : List Byte)
    (h : ∀ c ∈ m.cells, c.1 < n) (hb : a + bs.length ≤ n) :
    ∀ c ∈ (m.write a bs).cells, c.1 < n := by
  intro c hc
  simp only [Memory.write, List.mem_append, List.mem_filter] at hc
  rcases hc with (hc | hc) | hc
  · exact h c hc.1
  · have := mem_cellsFrom _ _ _ hc
    omega
  · exact h c hc.1

theorem find?_cellsFrom (a x : Nat) (bs : List Byte) :
    ((cellsFrom a bs).find? (fun c => c.1 == x)).map (fun c => c.2)
      = if a ≤ x then bs[x - a]? else none := by
  induction bs generalizing a with
  | nil => simp [cellsFrom]
  | cons b bs ih =>
    simp only [cellsFrom, List.find?_cons]
    by_cases hax : a = x
    · subst hax
      simp
    · have hbeq : ((a == x) = false) := by simpa using hax
      rw [hbeq]
      simp only [ih]
      by_cases hle : a ≤ x
      · have h1 : a + 1 ≤ x := by omega
        have h2 : x - a = (x - (a + 1)) + 1 := by omega
        rw [if_pos hle, if_pos h1, h2, List.getElem?_cons_succ]
      · rw [if_neg hle, if_neg (by omega)]

theorem find?_filter_key (l : List Host.Cell) (p : Host.Cell → Bool) (x : Nat)
    (hp : ∀ c : Host.Cell, c.1 = x → p c = true) :
    (l.filter p).find? (fun c => c.1 == x) = l.find? (fun c => c.1 == x) := by
  rw [List.find?_filter]
  congr 1
  funext c
  by_cases hc : c.1 = x
  · simp [hc, hp c hc]
  · simp [hc]

theorem find?_key_none (l : List Host.Cell) (x : Nat) (h : ∀ c ∈ l, c.1 ≠ x) :
    l.find? (fun c => c.1 == x) = none := by
  rw [List.find?_eq_none]
  intro c hc
  simpa using h c hc

/-- Reading after a write: the written bytes, and every other address as before. -/
theorem Memory.get?_write (m : Memory) (a x : Nat) (bs : List Byte) :
    (m.write a bs).get? x = if a ≤ x ∧ x < a + bs.length then bs[x - a]? else m.get? x := by
  have hlow : ∀ c ∈ m.cells.filter (fun c => decide (c.1 < a)), c.1 < a := by
    intro c hc
    simpa using (List.mem_filter.mp hc).2
  have hhigh : ∀ c ∈ m.cells.filter (fun c => decide (a + bs.length ≤ c.1)),
      a + bs.length ≤ c.1 := by
    intro c hc
    simpa using (List.mem_filter.mp hc).2
  have hrun : ¬(a ≤ x ∧ x < a + bs.length) →
      (cellsFrom a bs).find? (fun c => c.1 == x) = none := fun hn =>
    find?_key_none _ _ fun c hc => by
      have := mem_cellsFrom _ _ _ hc
      omega
  simp only [Memory.get?, Memory.write, List.find?_append]
  rcases Nat.lt_or_ge x a with hx | hx
  · have h3 := find?_key_none _ x (fun c hc => by have := hhigh c hc; omega)
    rw [find?_filter_key m.cells (fun c => decide (c.1 < a)) x
      (by intro c hc; simp; omega), hrun (by omega), h3, if_neg (by omega)]
    simp
  · have h1 := find?_key_none _ x (fun c hc => by have := hlow c hc; omega)
    rw [h1]
    rcases Nat.lt_or_ge x (a + bs.length) with hx2 | hx2
    · have h3 := find?_key_none _ x (fun c hc => by have := hhigh c hc; omega)
      rw [h3, if_pos ⟨hx, hx2⟩]
      simp only [Option.none_or, Option.or_none]
      rw [find?_cellsFrom, if_pos hx]
    · rw [hrun (by omega), find?_filter_key m.cells _ x (by intro c hc; simp; omega),
        if_neg (by omega)]
      simp

/-- Reading one byte after MemWrite. -/
theorem State.byteAt_memWrite (s : State) (a x : Nat) (bs : List Byte) :
    (s.memWrite a bs).byteAt x
      = if a ≤ x ∧ x < a + bs.length then bs.getD (x - a) 0 else s.byteAt x := by
  simp only [State.byteAt, State.memWrite, Memory.get?_write]
  by_cases h : a ≤ x ∧ x < a + bs.length
  · have hlt : x - a < bs.length := by omega
    simp [h, List.getD_eq_getElem?_getD, List.getElem?_eq_getElem hlt]
  · simp [h]

theorem State.byteAt_memWrite_outside (s : State) (a x : Nat) (bs : List Byte)
    (h : x < a ∨ a + bs.length ≤ x) : (s.memWrite a bs).byteAt x = s.byteAt x := by
  rw [State.byteAt_memWrite, if_neg (by omega)]

/-- A scrambled region is the same as a write of free bytes. -/
theorem State.byteAt_scramble_outside (s : State) (r : Region) (x : Nat)
    (h : x < r.addr ∨ r.addr + r.len ≤ x) : (s.scramble r).byteAt x = s.byteAt x :=
  State.byteAt_memWrite_outside s r.addr x (s.freshBytes r.len)
    (by simpa [State.freshBytes] using h)

@[simp] theorem State.freshBytes_length (s : State) (n : Nat) : (s.freshBytes n).length = n := by
  simp [State.freshBytes]

@[simp] theorem State.memRead_length (s : State) (a n : Nat) : (s.memRead a n).length = n := by
  simp [State.memRead]

@[simp] theorem State.readRegion_length (s : State) (r : Region) :
    (s.readRegion r).length = r.len := by simp [State.readRegion]

theorem State.memRead_getElem? (s : State) (a n i : Nat) (h : i < n) :
    (s.memRead a n)[i]? = some (s.byteAt (a + i)) := by
  simp [State.memRead, h]

/-- Reading depends only on the bytes of the region. -/
theorem State.memRead_congr (s t : State) (a n : Nat)
    (h : ∀ x, a ≤ x → x < a + n → t.byteAt x = s.byteAt x) : t.memRead a n = s.memRead a n := by
  simp only [State.memRead]
  refine List.map_congr_left fun i hi => ?_
  rw [List.mem_range] at hi
  exact h _ (by omega) (by omega)

/-- Reading back what was written. -/
theorem State.memRead_memWrite (s : State) (a : Nat) (bs : List Byte) :
    (s.memWrite a bs).memRead a bs.length = bs := by
  refine List.ext_getElem? fun i => ?_
  rcases Nat.lt_or_ge i bs.length with hi | hi
  · rw [State.memRead_getElem? _ _ _ _ hi, State.byteAt_memWrite, if_pos (by omega),
      List.getElem?_eq_getElem hi]
    simp [List.getD_eq_getElem?_getD, List.getElem?_eq_getElem hi]
  · rw [List.getElem?_eq_none (by simpa using hi), List.getElem?_eq_none hi]

end Sys2Proof.Machine
end

