-- ==== Sys2Proof/Laws/State.lean ====
section
/-! SUPPORT. One lemma per field per shared update of the state: what each update writes, and that it
leaves every other field. The accessors that read one group of fields are covered with them. -/

namespace Sys2Proof.Machine

/-! ## memWrite -/

@[simp] theorem State.memWrite_sym (s : State) (a : Nat) (bs : List Byte) :
    (s.memWrite a bs).sym = s.sym := rfl
@[simp] theorem State.memWrite_done (s : State) (a : Nat) (bs : List Byte) :
    (s.memWrite a bs).done = s.done := rfl
@[simp] theorem State.memWrite_err (s : State) (a : Nat) (bs : List Byte) :
    (s.memWrite a bs).err = s.err := rfl
@[simp] theorem State.memWrite_errCode (s : State) (a : Nat) (bs : List Byte) :
    (s.memWrite a bs).errCode = s.errCode := rfl
@[simp] theorem State.memWrite_ie (s : State) (a : Nat) (bs : List Byte) :
    (s.memWrite a bs).ie = s.ie := rfl
@[simp] theorem State.memWrite_cmd (s : State) (a : Nat) (bs : List Byte) :
    (s.memWrite a bs).cmd = s.cmd := rfl
@[simp] theorem State.memWrite_blksz (s : State) (a : Nat) (bs : List Byte) :
    (s.memWrite a bs).blksz = s.blksz := rfl
@[simp] theorem State.memWrite_args (s : State) (a : Nat) (bs : List Byte) :
    (s.memWrite a bs).args = s.args := rfl
@[simp] theorem State.memWrite_resLen (s : State) (a : Nat) (bs : List Byte) :
    (s.memWrite a bs).resLen = s.resLen := rfl
@[simp] theorem State.memWrite_resKey (s : State) (a : Nat) (bs : List Byte) :
    (s.memWrite a bs).resKey = s.resKey := rfl
@[simp] theorem State.memWrite_resIdx (s : State) (a : Nat) (bs : List Byte) :
    (s.memWrite a bs).resIdx = s.resIdx := rfl
@[simp] theorem State.memWrite_resScore (s : State) (a : Nat) (bs : List Byte) :
    (s.memWrite a bs).resScore = s.resScore := rfl
@[simp] theorem State.memWrite_refValid (s : State) (a : Nat) (bs : List Byte) :
    (s.memWrite a bs).refValid = s.refValid := rfl
@[simp] theorem State.memWrite_ref (s : State) (a : Nat) (bs : List Byte) :
    (s.memWrite a bs).ref = s.ref := rfl
@[simp] theorem State.memWrite_bufSize (s : State) (a : Nat) (bs : List Byte) :
    (s.memWrite a bs).bufSize = s.bufSize := rfl
@[simp] theorem State.memWrite_sp (s : State) (a : Nat) (bs : List Byte) :
    (s.memWrite a bs).sp = s.sp.write a bs := rfl
@[simp] theorem State.memWrite_engine (s : State) (a : Nat) (bs : List Byte) :
    (s.memWrite a bs).engine = s.engine := rfl
@[simp] theorem State.memWrite_snap (s : State) (a : Nat) (bs : List Byte) :
    (s.memWrite a bs).snap = s.snap := rfl
@[simp] theorem State.memWrite_pend (s : State) (a : Nat) (bs : List Byte) :
    (s.memWrite a bs).pend = s.pend := rfl
@[simp] theorem State.memWrite_dirty (s : State) (a : Nat) (bs : List Byte) :
    (s.memWrite a bs).dirty = s.dirty := rfl
@[simp] theorem State.memWrite_progress (s : State) (a : Nat) (bs : List Byte) :
    (s.memWrite a bs).progress = s.progress := rfl
@[simp] theorem State.memWrite_inputs (s : State) (a : Nat) (bs : List Byte) :
    (s.memWrite a bs).inputs = s.inputs := rfl
@[simp] theorem State.memWrite_hostResp (s : State) (a : Nat) (bs : List Byte) :
    (s.memWrite a bs).hostResp = s.hostResp := rfl
@[simp] theorem State.memWrite_draws (s : State) (a : Nat) (bs : List Byte) :
    (s.memWrite a bs).draws = s.draws := rfl
@[simp] theorem State.memWrite_issued (s : State) (a : Nat) (bs : List Byte) :
    (s.memWrite a bs).issued = s.issued := rfl
@[simp] theorem State.memWrite_epoch (s : State) (a : Nat) (bs : List Byte) :
    (s.memWrite a bs).epoch = s.epoch := rfl
@[simp] theorem State.memWrite_blkLen (s : State) (a : Nat) (bs : List Byte) :
    (s.memWrite a bs).blkLen = s.blkLen := rfl
@[simp] theorem State.memWrite_snapRef (s : State) (a : Nat) (bs : List Byte) :
    (s.memWrite a bs).snapRef = s.snapRef := rfl
@[simp] theorem State.memWrite_arg (s : State) (a : Nat) (bs : List Byte) (i : Fin 8) :
    (s.memWrite a bs).arg i = s.arg i := rfl
@[simp] theorem State.memWrite_busy (s : State) (a : Nat) (bs : List Byte) :
    (s.memWrite a bs).busy = s.busy := rfl

/-! ## setResLen -/

@[simp] theorem State.setResLen_sym (s : State) (n : Nat) : (s.setResLen n).sym = s.sym := rfl
@[simp] theorem State.setResLen_done (s : State) (n : Nat) : (s.setResLen n).done = s.done := rfl
@[simp] theorem State.setResLen_err (s : State) (n : Nat) : (s.setResLen n).err = s.err := rfl
@[simp] theorem State.setResLen_errCode (s : State) (n : Nat) :
    (s.setResLen n).errCode = s.errCode := rfl
@[simp] theorem State.setResLen_ie (s : State) (n : Nat) : (s.setResLen n).ie = s.ie := rfl
@[simp] theorem State.setResLen_cmd (s : State) (n : Nat) : (s.setResLen n).cmd = s.cmd := rfl
@[simp] theorem State.setResLen_blksz (s : State) (n : Nat) : (s.setResLen n).blksz = s.blksz := rfl
@[simp] theorem State.setResLen_args (s : State) (n : Nat) : (s.setResLen n).args = s.args := rfl
@[simp] theorem State.setResLen_resLen (s : State) (n : Nat) :
    (s.setResLen n).resLen = BitVec.ofNat 32 n := rfl
@[simp] theorem State.setResLen_resKey (s : State) (n : Nat) :
    (s.setResLen n).resKey = s.resKey := rfl
@[simp] theorem State.setResLen_resIdx (s : State) (n : Nat) :
    (s.setResLen n).resIdx = s.resIdx := rfl
@[simp] theorem State.setResLen_resScore (s : State) (n : Nat) :
    (s.setResLen n).resScore = s.resScore := rfl
@[simp] theorem State.setResLen_refValid (s : State) (n : Nat) :
    (s.setResLen n).refValid = s.refValid := rfl
@[simp] theorem State.setResLen_ref (s : State) (n : Nat) : (s.setResLen n).ref = s.ref := rfl
@[simp] theorem State.setResLen_bufSize (s : State) (n : Nat) :
    (s.setResLen n).bufSize = s.bufSize := rfl
@[simp] theorem State.setResLen_sp (s : State) (n : Nat) : (s.setResLen n).sp = s.sp := rfl
@[simp] theorem State.setResLen_engine (s : State) (n : Nat) :
    (s.setResLen n).engine = s.engine := rfl
@[simp] theorem State.setResLen_snap (s : State) (n : Nat) : (s.setResLen n).snap = s.snap := rfl
@[simp] theorem State.setResLen_pend (s : State) (n : Nat) : (s.setResLen n).pend = s.pend := rfl
@[simp] theorem State.setResLen_dirty (s : State) (n : Nat) : (s.setResLen n).dirty = s.dirty := rfl
@[simp] theorem State.setResLen_progress (s : State) (n : Nat) :
    (s.setResLen n).progress = s.progress := rfl
@[simp] theorem State.setResLen_inputs (s : State) (n : Nat) :
    (s.setResLen n).inputs = s.inputs := rfl
@[simp] theorem State.setResLen_hostResp (s : State) (n : Nat) :
    (s.setResLen n).hostResp = s.hostResp := rfl
@[simp] theorem State.setResLen_draws (s : State) (n : Nat) : (s.setResLen n).draws = s.draws := rfl
@[simp] theorem State.setResLen_issued (s : State) (n : Nat) :
    (s.setResLen n).issued = s.issued := rfl
@[simp] theorem State.setResLen_epoch (s : State) (n : Nat) : (s.setResLen n).epoch = s.epoch := rfl
@[simp] theorem State.setResLen_blkLen (s : State) (n : Nat) :
    (s.setResLen n).blkLen = s.blkLen := rfl
@[simp] theorem State.setResLen_snapRef (s : State) (n : Nat) :
    (s.setResLen n).snapRef = s.snapRef := rfl
@[simp] theorem State.setResLen_arg (s : State) (n : Nat) (i : Fin 8) :
    (s.setResLen n).arg i = s.arg i := rfl
@[simp] theorem State.setResLen_byteAt (s : State) (n : Nat) (adr : Nat) :
    (s.setResLen n).byteAt adr = s.byteAt adr := rfl
@[simp] theorem State.setResLen_busy (s : State) (n : Nat) : (s.setResLen n).busy = s.busy := rfl

/-! ## setResKey -/

@[simp] theorem State.setResKey_sym (s : State) (k : Byte) : (s.setResKey k).sym = s.sym := rfl
@[simp] theorem State.setResKey_done (s : State) (k : Byte) : (s.setResKey k).done = s.done := rfl
@[simp] theorem State.setResKey_err (s : State) (k : Byte) : (s.setResKey k).err = s.err := rfl
@[simp] theorem State.setResKey_errCode (s : State) (k : Byte) :
    (s.setResKey k).errCode = s.errCode := rfl
@[simp] theorem State.setResKey_ie (s : State) (k : Byte) : (s.setResKey k).ie = s.ie := rfl
@[simp] theorem State.setResKey_cmd (s : State) (k : Byte) : (s.setResKey k).cmd = s.cmd := rfl
@[simp] theorem State.setResKey_blksz (s : State) (k : Byte) :
    (s.setResKey k).blksz = s.blksz := rfl
@[simp] theorem State.setResKey_args (s : State) (k : Byte) : (s.setResKey k).args = s.args := rfl
@[simp] theorem State.setResKey_resLen (s : State) (k : Byte) :
    (s.setResKey k).resLen = s.resLen := rfl
@[simp] theorem State.setResKey_resKey (s : State) (k : Byte) : (s.setResKey k).resKey = k := rfl
@[simp] theorem State.setResKey_resIdx (s : State) (k : Byte) :
    (s.setResKey k).resIdx = s.resIdx := rfl
@[simp] theorem State.setResKey_resScore (s : State) (k : Byte) :
    (s.setResKey k).resScore = s.resScore := rfl
@[simp] theorem State.setResKey_refValid (s : State) (k : Byte) :
    (s.setResKey k).refValid = s.refValid := rfl
@[simp] theorem State.setResKey_ref (s : State) (k : Byte) : (s.setResKey k).ref = s.ref := rfl
@[simp] theorem State.setResKey_bufSize (s : State) (k : Byte) :
    (s.setResKey k).bufSize = s.bufSize := rfl
@[simp] theorem State.setResKey_sp (s : State) (k : Byte) : (s.setResKey k).sp = s.sp := rfl
@[simp] theorem State.setResKey_engine (s : State) (k : Byte) :
    (s.setResKey k).engine = s.engine := rfl
@[simp] theorem State.setResKey_snap (s : State) (k : Byte) : (s.setResKey k).snap = s.snap := rfl
@[simp] theorem State.setResKey_pend (s : State) (k : Byte) : (s.setResKey k).pend = s.pend := rfl
@[simp] theorem State.setResKey_dirty (s : State) (k : Byte) :
    (s.setResKey k).dirty = s.dirty := rfl
@[simp] theorem State.setResKey_progress (s : State) (k : Byte) :
    (s.setResKey k).progress = s.progress := rfl
@[simp] theorem State.setResKey_inputs (s : State) (k : Byte) :
    (s.setResKey k).inputs = s.inputs := rfl
@[simp] theorem State.setResKey_hostResp (s : State) (k : Byte) :
    (s.setResKey k).hostResp = s.hostResp := rfl
@[simp] theorem State.setResKey_draws (s : State) (k : Byte) :
    (s.setResKey k).draws = s.draws := rfl
@[simp] theorem State.setResKey_issued (s : State) (k : Byte) :
    (s.setResKey k).issued = s.issued := rfl
@[simp] theorem State.setResKey_epoch (s : State) (k : Byte) :
    (s.setResKey k).epoch = s.epoch := rfl
@[simp] theorem State.setResKey_blkLen (s : State) (k : Byte) :
    (s.setResKey k).blkLen = s.blkLen := rfl
@[simp] theorem State.setResKey_snapRef (s : State) (k : Byte) :
    (s.setResKey k).snapRef = s.snapRef := rfl
@[simp] theorem State.setResKey_arg (s : State) (k : Byte) (i : Fin 8) :
    (s.setResKey k).arg i = s.arg i := rfl
@[simp] theorem State.setResKey_byteAt (s : State) (k : Byte) (adr : Nat) :
    (s.setResKey k).byteAt adr = s.byteAt adr := rfl
@[simp] theorem State.setResKey_busy (s : State) (k : Byte) : (s.setResKey k).busy = s.busy := rfl

/-! ## setResIdx -/

@[simp] theorem State.setResIdx_sym (s : State) (n : Nat) : (s.setResIdx n).sym = s.sym := rfl
@[simp] theorem State.setResIdx_done (s : State) (n : Nat) : (s.setResIdx n).done = s.done := rfl
@[simp] theorem State.setResIdx_err (s : State) (n : Nat) : (s.setResIdx n).err = s.err := rfl
@[simp] theorem State.setResIdx_errCode (s : State) (n : Nat) :
    (s.setResIdx n).errCode = s.errCode := rfl
@[simp] theorem State.setResIdx_ie (s : State) (n : Nat) : (s.setResIdx n).ie = s.ie := rfl
@[simp] theorem State.setResIdx_cmd (s : State) (n : Nat) : (s.setResIdx n).cmd = s.cmd := rfl
@[simp] theorem State.setResIdx_blksz (s : State) (n : Nat) : (s.setResIdx n).blksz = s.blksz := rfl
@[simp] theorem State.setResIdx_args (s : State) (n : Nat) : (s.setResIdx n).args = s.args := rfl
@[simp] theorem State.setResIdx_resLen (s : State) (n : Nat) :
    (s.setResIdx n).resLen = s.resLen := rfl
@[simp] theorem State.setResIdx_resKey (s : State) (n : Nat) :
    (s.setResIdx n).resKey = s.resKey := rfl
@[simp] theorem State.setResIdx_resIdx (s : State) (n : Nat) :
    (s.setResIdx n).resIdx = BitVec.ofNat 32 n := rfl
@[simp] theorem State.setResIdx_resScore (s : State) (n : Nat) :
    (s.setResIdx n).resScore = s.resScore := rfl
@[simp] theorem State.setResIdx_refValid (s : State) (n : Nat) :
    (s.setResIdx n).refValid = s.refValid := rfl
@[simp] theorem State.setResIdx_ref (s : State) (n : Nat) : (s.setResIdx n).ref = s.ref := rfl
@[simp] theorem State.setResIdx_bufSize (s : State) (n : Nat) :
    (s.setResIdx n).bufSize = s.bufSize := rfl
@[simp] theorem State.setResIdx_sp (s : State) (n : Nat) : (s.setResIdx n).sp = s.sp := rfl
@[simp] theorem State.setResIdx_engine (s : State) (n : Nat) :
    (s.setResIdx n).engine = s.engine := rfl
@[simp] theorem State.setResIdx_snap (s : State) (n : Nat) : (s.setResIdx n).snap = s.snap := rfl
@[simp] theorem State.setResIdx_pend (s : State) (n : Nat) : (s.setResIdx n).pend = s.pend := rfl
@[simp] theorem State.setResIdx_dirty (s : State) (n : Nat) : (s.setResIdx n).dirty = s.dirty := rfl
@[simp] theorem State.setResIdx_progress (s : State) (n : Nat) :
    (s.setResIdx n).progress = s.progress := rfl
@[simp] theorem State.setResIdx_inputs (s : State) (n : Nat) :
    (s.setResIdx n).inputs = s.inputs := rfl
@[simp] theorem State.setResIdx_hostResp (s : State) (n : Nat) :
    (s.setResIdx n).hostResp = s.hostResp := rfl
@[simp] theorem State.setResIdx_draws (s : State) (n : Nat) : (s.setResIdx n).draws = s.draws := rfl
@[simp] theorem State.setResIdx_issued (s : State) (n : Nat) :
    (s.setResIdx n).issued = s.issued := rfl
@[simp] theorem State.setResIdx_epoch (s : State) (n : Nat) : (s.setResIdx n).epoch = s.epoch := rfl
@[simp] theorem State.setResIdx_blkLen (s : State) (n : Nat) :
    (s.setResIdx n).blkLen = s.blkLen := rfl
@[simp] theorem State.setResIdx_snapRef (s : State) (n : Nat) :
    (s.setResIdx n).snapRef = s.snapRef := rfl
@[simp] theorem State.setResIdx_arg (s : State) (n : Nat) (i : Fin 8) :
    (s.setResIdx n).arg i = s.arg i := rfl
@[simp] theorem State.setResIdx_byteAt (s : State) (n : Nat) (adr : Nat) :
    (s.setResIdx n).byteAt adr = s.byteAt adr := rfl
@[simp] theorem State.setResIdx_busy (s : State) (n : Nat) : (s.setResIdx n).busy = s.busy := rfl

/-! ## setResScore -/

@[simp] theorem State.setResScore_sym (s : State) (x : F64) : (s.setResScore x).sym = s.sym := rfl
@[simp] theorem State.setResScore_done (s : State) (x : F64) :
    (s.setResScore x).done = s.done := rfl
@[simp] theorem State.setResScore_err (s : State) (x : F64) : (s.setResScore x).err = s.err := rfl
@[simp] theorem State.setResScore_errCode (s : State) (x : F64) :
    (s.setResScore x).errCode = s.errCode := rfl
@[simp] theorem State.setResScore_ie (s : State) (x : F64) : (s.setResScore x).ie = s.ie := rfl
@[simp] theorem State.setResScore_cmd (s : State) (x : F64) : (s.setResScore x).cmd = s.cmd := rfl
@[simp] theorem State.setResScore_blksz (s : State) (x : F64) :
    (s.setResScore x).blksz = s.blksz := rfl
@[simp] theorem State.setResScore_args (s : State) (x : F64) :
    (s.setResScore x).args = s.args := rfl
@[simp] theorem State.setResScore_resLen (s : State) (x : F64) :
    (s.setResScore x).resLen = s.resLen := rfl
@[simp] theorem State.setResScore_resKey (s : State) (x : F64) :
    (s.setResScore x).resKey = s.resKey := rfl
@[simp] theorem State.setResScore_resIdx (s : State) (x : F64) :
    (s.setResScore x).resIdx = s.resIdx := rfl
@[simp] theorem State.setResScore_resScore (s : State) (x : F64) :
    (s.setResScore x).resScore = x := rfl
@[simp] theorem State.setResScore_refValid (s : State) (x : F64) :
    (s.setResScore x).refValid = s.refValid := rfl
@[simp] theorem State.setResScore_ref (s : State) (x : F64) : (s.setResScore x).ref = s.ref := rfl
@[simp] theorem State.setResScore_bufSize (s : State) (x : F64) :
    (s.setResScore x).bufSize = s.bufSize := rfl
@[simp] theorem State.setResScore_sp (s : State) (x : F64) : (s.setResScore x).sp = s.sp := rfl
@[simp] theorem State.setResScore_engine (s : State) (x : F64) :
    (s.setResScore x).engine = s.engine := rfl
@[simp] theorem State.setResScore_snap (s : State) (x : F64) :
    (s.setResScore x).snap = s.snap := rfl
@[simp] theorem State.setResScore_pend (s : State) (x : F64) :
    (s.setResScore x).pend = s.pend := rfl
@[simp] theorem State.setResScore_dirty (s : State) (x : F64) :
    (s.setResScore x).dirty = s.dirty := rfl
@[simp] theorem State.setResScore_progress (s : State) (x : F64) :
    (s.setResScore x).progress = s.progress := rfl
@[simp] theorem State.setResScore_inputs (s : State) (x : F64) :
    (s.setResScore x).inputs = s.inputs := rfl
@[simp] theorem State.setResScore_hostResp (s : State) (x : F64) :
    (s.setResScore x).hostResp = s.hostResp := rfl
@[simp] theorem State.setResScore_draws (s : State) (x : F64) :
    (s.setResScore x).draws = s.draws := rfl
@[simp] theorem State.setResScore_issued (s : State) (x : F64) :
    (s.setResScore x).issued = s.issued := rfl
@[simp] theorem State.setResScore_epoch (s : State) (x : F64) :
    (s.setResScore x).epoch = s.epoch := rfl
@[simp] theorem State.setResScore_blkLen (s : State) (x : F64) :
    (s.setResScore x).blkLen = s.blkLen := rfl
@[simp] theorem State.setResScore_snapRef (s : State) (x : F64) :
    (s.setResScore x).snapRef = s.snapRef := rfl
@[simp] theorem State.setResScore_arg (s : State) (x : F64) (i : Fin 8) :
    (s.setResScore x).arg i = s.arg i := rfl
@[simp] theorem State.setResScore_byteAt (s : State) (x : F64) (adr : Nat) :
    (s.setResScore x).byteAt adr = s.byteAt adr := rfl
@[simp] theorem State.setResScore_busy (s : State) (x : F64) :
    (s.setResScore x).busy = s.busy := rfl

/-! ## loadRef -/

@[simp] theorem State.loadRef_sym (s : State) (w : Nat → F64) : (s.loadRef w).sym = s.sym := rfl
@[simp] theorem State.loadRef_done (s : State) (w : Nat → F64) : (s.loadRef w).done = s.done := rfl
@[simp] theorem State.loadRef_err (s : State) (w : Nat → F64) : (s.loadRef w).err = s.err := rfl
@[simp] theorem State.loadRef_errCode (s : State) (w : Nat → F64) :
    (s.loadRef w).errCode = s.errCode := rfl
@[simp] theorem State.loadRef_ie (s : State) (w : Nat → F64) : (s.loadRef w).ie = s.ie := rfl
@[simp] theorem State.loadRef_cmd (s : State) (w : Nat → F64) : (s.loadRef w).cmd = s.cmd := rfl
@[simp] theorem State.loadRef_blksz (s : State) (w : Nat → F64) :
    (s.loadRef w).blksz = s.blksz := rfl
@[simp] theorem State.loadRef_args (s : State) (w : Nat → F64) : (s.loadRef w).args = s.args := rfl
@[simp] theorem State.loadRef_resLen (s : State) (w : Nat → F64) :
    (s.loadRef w).resLen = s.resLen := rfl
@[simp] theorem State.loadRef_resKey (s : State) (w : Nat → F64) :
    (s.loadRef w).resKey = s.resKey := rfl
@[simp] theorem State.loadRef_resIdx (s : State) (w : Nat → F64) :
    (s.loadRef w).resIdx = s.resIdx := rfl
@[simp] theorem State.loadRef_resScore (s : State) (w : Nat → F64) :
    (s.loadRef w).resScore = s.resScore := rfl
@[simp] theorem State.loadRef_refValid (s : State) (w : Nat → F64) :
    (s.loadRef w).refValid = true := rfl
@[simp] theorem State.loadRef_ref (s : State) (w : Nat → F64) :
    (s.loadRef w).ref = Vector.ofFn (fun v => w v.val) := rfl
@[simp] theorem State.loadRef_bufSize (s : State) (w : Nat → F64) :
    (s.loadRef w).bufSize = s.bufSize := rfl
@[simp] theorem State.loadRef_sp (s : State) (w : Nat → F64) : (s.loadRef w).sp = s.sp := rfl
@[simp] theorem State.loadRef_engine (s : State) (w : Nat → F64) :
    (s.loadRef w).engine = s.engine := rfl
@[simp] theorem State.loadRef_snap (s : State) (w : Nat → F64) : (s.loadRef w).snap = s.snap := rfl
@[simp] theorem State.loadRef_pend (s : State) (w : Nat → F64) : (s.loadRef w).pend = s.pend := rfl
@[simp] theorem State.loadRef_dirty (s : State) (w : Nat → F64) :
    (s.loadRef w).dirty = s.dirty := rfl
@[simp] theorem State.loadRef_progress (s : State) (w : Nat → F64) :
    (s.loadRef w).progress = s.progress := rfl
@[simp] theorem State.loadRef_inputs (s : State) (w : Nat → F64) :
    (s.loadRef w).inputs = s.inputs := rfl
@[simp] theorem State.loadRef_hostResp (s : State) (w : Nat → F64) :
    (s.loadRef w).hostResp = s.hostResp := rfl
@[simp] theorem State.loadRef_draws (s : State) (w : Nat → F64) :
    (s.loadRef w).draws = s.draws := rfl
@[simp] theorem State.loadRef_issued (s : State) (w : Nat → F64) :
    (s.loadRef w).issued = s.issued := rfl
@[simp] theorem State.loadRef_epoch (s : State) (w : Nat → F64) :
    (s.loadRef w).epoch = s.epoch := rfl
@[simp] theorem State.loadRef_blkLen (s : State) (w : Nat → F64) :
    (s.loadRef w).blkLen = s.blkLen := rfl
@[simp] theorem State.loadRef_snapRef (s : State) (w : Nat → F64) :
    (s.loadRef w).snapRef = s.snapRef := rfl
@[simp] theorem State.loadRef_arg (s : State) (w : Nat → F64) (i : Fin 8) :
    (s.loadRef w).arg i = s.arg i := rfl
@[simp] theorem State.loadRef_byteAt (s : State) (w : Nat → F64) (adr : Nat) :
    (s.loadRef w).byteAt adr = s.byteAt adr := rfl
@[simp] theorem State.loadRef_busy (s : State) (w : Nat → F64) : (s.loadRef w).busy = s.busy := rfl

/-! ## complete -/

@[simp] theorem State.complete_sym (s : State) (e : Bool) (c : Byte) :
    (s.complete e c).sym = s.sym := rfl
@[simp] theorem State.complete_done (s : State) (e : Bool) (c : Byte) :
    (s.complete e c).done = true := rfl
@[simp] theorem State.complete_err (s : State) (e : Bool) (c : Byte) :
    (s.complete e c).err = e := rfl
@[simp] theorem State.complete_errCode (s : State) (e : Bool) (c : Byte) :
    (s.complete e c).errCode = c := rfl
@[simp] theorem State.complete_ie (s : State) (e : Bool) (c : Byte) :
    (s.complete e c).ie = s.ie := rfl
@[simp] theorem State.complete_cmd (s : State) (e : Bool) (c : Byte) :
    (s.complete e c).cmd = s.cmd := rfl
@[simp] theorem State.complete_blksz (s : State) (e : Bool) (c : Byte) :
    (s.complete e c).blksz = s.blksz := rfl
@[simp] theorem State.complete_args (s : State) (e : Bool) (c : Byte) :
    (s.complete e c).args = s.args := rfl
@[simp] theorem State.complete_resLen (s : State) (e : Bool) (c : Byte) :
    (s.complete e c).resLen = s.resLen := rfl
@[simp] theorem State.complete_resKey (s : State) (e : Bool) (c : Byte) :
    (s.complete e c).resKey = s.resKey := rfl
@[simp] theorem State.complete_resIdx (s : State) (e : Bool) (c : Byte) :
    (s.complete e c).resIdx = s.resIdx := rfl
@[simp] theorem State.complete_resScore (s : State) (e : Bool) (c : Byte) :
    (s.complete e c).resScore = s.resScore := rfl
@[simp] theorem State.complete_refValid (s : State) (e : Bool) (c : Byte) :
    (s.complete e c).refValid = s.refValid := rfl
@[simp] theorem State.complete_ref (s : State) (e : Bool) (c : Byte) :
    (s.complete e c).ref = s.ref := rfl
@[simp] theorem State.complete_bufSize (s : State) (e : Bool) (c : Byte) :
    (s.complete e c).bufSize = s.bufSize := rfl
@[simp] theorem State.complete_sp (s : State) (e : Bool) (c : Byte) :
    (s.complete e c).sp = s.sp := rfl
@[simp] theorem State.complete_engine (s : State) (e : Bool) (c : Byte) :
    (s.complete e c).engine = .idle := rfl
@[simp] theorem State.complete_snap (s : State) (e : Bool) (c : Byte) :
    (s.complete e c).snap = s.snap := rfl
@[simp] theorem State.complete_pend (s : State) (e : Bool) (c : Byte) :
    (s.complete e c).pend = none := rfl
@[simp] theorem State.complete_dirty (s : State) (e : Bool) (c : Byte) :
    (s.complete e c).dirty = none := rfl
@[simp] theorem State.complete_progress (s : State) (e : Bool) (c : Byte) :
    (s.complete e c).progress = .fresh := rfl
@[simp] theorem State.complete_inputs (s : State) (e : Bool) (c : Byte) :
    (s.complete e c).inputs = s.inputs := rfl
@[simp] theorem State.complete_hostResp (s : State) (e : Bool) (c : Byte) :
    (s.complete e c).hostResp = s.hostResp := rfl
@[simp] theorem State.complete_draws (s : State) (e : Bool) (c : Byte) :
    (s.complete e c).draws = s.draws := rfl
@[simp] theorem State.complete_issued (s : State) (e : Bool) (c : Byte) :
    (s.complete e c).issued = s.issued := rfl
@[simp] theorem State.complete_epoch (s : State) (e : Bool) (c : Byte) :
    (s.complete e c).epoch = s.epoch := rfl
@[simp] theorem State.complete_blkLen (s : State) (e : Bool) (c : Byte) :
    (s.complete e c).blkLen = s.blkLen := rfl
@[simp] theorem State.complete_snapRef (s : State) (e : Bool) (c : Byte) :
    (s.complete e c).snapRef = s.snapRef := rfl
@[simp] theorem State.complete_arg (s : State) (e : Bool) (c : Byte) (i : Fin 8) :
    (s.complete e c).arg i = s.arg i := rfl
@[simp] theorem State.complete_byteAt (s : State) (e : Bool) (c : Byte) (adr : Nat) :
    (s.complete e c).byteAt adr = s.byteAt adr := rfl

/-! ## finish -/

@[simp] theorem State.finish_sym (s : State) : (s.finish).sym = s.sym := rfl
@[simp] theorem State.finish_done (s : State) : (s.finish).done = true := rfl
@[simp] theorem State.finish_err (s : State) : (s.finish).err = false := rfl
@[simp] theorem State.finish_errCode (s : State) : (s.finish).errCode = 0 := rfl
@[simp] theorem State.finish_ie (s : State) : (s.finish).ie = s.ie := rfl
@[simp] theorem State.finish_cmd (s : State) : (s.finish).cmd = s.cmd := rfl
@[simp] theorem State.finish_blksz (s : State) : (s.finish).blksz = s.blksz := rfl
@[simp] theorem State.finish_args (s : State) : (s.finish).args = s.args := rfl
@[simp] theorem State.finish_resLen (s : State) : (s.finish).resLen = s.resLen := rfl
@[simp] theorem State.finish_resKey (s : State) : (s.finish).resKey = s.resKey := rfl
@[simp] theorem State.finish_resIdx (s : State) : (s.finish).resIdx = s.resIdx := rfl
@[simp] theorem State.finish_resScore (s : State) : (s.finish).resScore = s.resScore := rfl
@[simp] theorem State.finish_refValid (s : State) : (s.finish).refValid = s.refValid := rfl
@[simp] theorem State.finish_ref (s : State) : (s.finish).ref = s.ref := rfl
@[simp] theorem State.finish_bufSize (s : State) : (s.finish).bufSize = s.bufSize := rfl
@[simp] theorem State.finish_sp (s : State) : (s.finish).sp = s.sp := rfl
@[simp] theorem State.finish_engine (s : State) : (s.finish).engine = .idle := rfl
@[simp] theorem State.finish_snap (s : State) : (s.finish).snap = s.snap := rfl
@[simp] theorem State.finish_pend (s : State) : (s.finish).pend = none := rfl
@[simp] theorem State.finish_dirty (s : State) : (s.finish).dirty = none := rfl
@[simp] theorem State.finish_progress (s : State) : (s.finish).progress = .fresh := rfl
@[simp] theorem State.finish_inputs (s : State) : (s.finish).inputs = s.inputs := rfl
@[simp] theorem State.finish_hostResp (s : State) : (s.finish).hostResp = s.hostResp := rfl
@[simp] theorem State.finish_draws (s : State) : (s.finish).draws = s.draws := rfl
@[simp] theorem State.finish_issued (s : State) : (s.finish).issued = s.issued := rfl
@[simp] theorem State.finish_epoch (s : State) : (s.finish).epoch = s.epoch := rfl
@[simp] theorem State.finish_blkLen (s : State) : (s.finish).blkLen = s.blkLen := rfl
@[simp] theorem State.finish_snapRef (s : State) : (s.finish).snapRef = s.snapRef := rfl
@[simp] theorem State.finish_arg (s : State) (i : Fin 8) :
    (s.finish).arg i = s.arg i := rfl
@[simp] theorem State.finish_byteAt (s : State) (adr : Nat) :
    (s.finish).byteAt adr = s.byteAt adr := rfl

/-! ## raiseError -/

@[simp] theorem State.raiseError_sym (s : State) (c : ErrCode) : (s.raiseError c).sym = s.sym := rfl
@[simp] theorem State.raiseError_done (s : State) (c : ErrCode) :
    (s.raiseError c).done = true := rfl
@[simp] theorem State.raiseError_err (s : State) (c : ErrCode) : (s.raiseError c).err = true := rfl
@[simp] theorem State.raiseError_errCode (s : State) (c : ErrCode) :
    (s.raiseError c).errCode = c.code := rfl
@[simp] theorem State.raiseError_ie (s : State) (c : ErrCode) : (s.raiseError c).ie = s.ie := rfl
@[simp] theorem State.raiseError_cmd (s : State) (c : ErrCode) : (s.raiseError c).cmd = s.cmd := rfl
@[simp] theorem State.raiseError_blksz (s : State) (c : ErrCode) :
    (s.raiseError c).blksz = s.blksz := rfl
@[simp] theorem State.raiseError_args (s : State) (c : ErrCode) :
    (s.raiseError c).args = s.args := rfl
@[simp] theorem State.raiseError_resLen (s : State) (c : ErrCode) :
    (s.raiseError c).resLen = s.resLen := rfl
@[simp] theorem State.raiseError_resKey (s : State) (c : ErrCode) :
    (s.raiseError c).resKey = s.resKey := rfl
@[simp] theorem State.raiseError_resIdx (s : State) (c : ErrCode) :
    (s.raiseError c).resIdx = s.resIdx := rfl
@[simp] theorem State.raiseError_resScore (s : State) (c : ErrCode) :
    (s.raiseError c).resScore = s.resScore := rfl
@[simp] theorem State.raiseError_refValid (s : State) (c : ErrCode) :
    (s.raiseError c).refValid = s.refValid := rfl
@[simp] theorem State.raiseError_ref (s : State) (c : ErrCode) : (s.raiseError c).ref = s.ref := rfl
@[simp] theorem State.raiseError_bufSize (s : State) (c : ErrCode) :
    (s.raiseError c).bufSize = s.bufSize := rfl
@[simp] theorem State.raiseError_sp (s : State) (c : ErrCode) : (s.raiseError c).sp = s.sp := rfl
@[simp] theorem State.raiseError_engine (s : State) (c : ErrCode) :
    (s.raiseError c).engine = .idle := rfl
@[simp] theorem State.raiseError_snap (s : State) (c : ErrCode) :
    (s.raiseError c).snap = s.snap := rfl
@[simp] theorem State.raiseError_pend (s : State) (c : ErrCode) :
    (s.raiseError c).pend = none := rfl
@[simp] theorem State.raiseError_dirty (s : State) (c : ErrCode) :
    (s.raiseError c).dirty = none := rfl
@[simp] theorem State.raiseError_progress (s : State) (c : ErrCode) :
    (s.raiseError c).progress = .fresh := rfl
@[simp] theorem State.raiseError_inputs (s : State) (c : ErrCode) :
    (s.raiseError c).inputs = s.inputs := rfl
@[simp] theorem State.raiseError_hostResp (s : State) (c : ErrCode) :
    (s.raiseError c).hostResp = s.hostResp := rfl
@[simp] theorem State.raiseError_draws (s : State) (c : ErrCode) :
    (s.raiseError c).draws = s.draws := rfl
@[simp] theorem State.raiseError_issued (s : State) (c : ErrCode) :
    (s.raiseError c).issued = s.issued := rfl
@[simp] theorem State.raiseError_epoch (s : State) (c : ErrCode) :
    (s.raiseError c).epoch = s.epoch := rfl
@[simp] theorem State.raiseError_blkLen (s : State) (c : ErrCode) :
    (s.raiseError c).blkLen = s.blkLen := rfl
@[simp] theorem State.raiseError_snapRef (s : State) (c : ErrCode) :
    (s.raiseError c).snapRef = s.snapRef := rfl
@[simp] theorem State.raiseError_arg (s : State) (c : ErrCode) (i : Fin 8) :
    (s.raiseError c).arg i = s.arg i := rfl
@[simp] theorem State.raiseError_byteAt (s : State) (c : ErrCode) (adr : Nat) :
    (s.raiseError c).byteAt adr = s.byteAt adr := rfl

/-! ## clearDone -/

@[simp] theorem State.clearDone_sym (s : State) : (s.clearDone).sym = s.sym := rfl
@[simp] theorem State.clearDone_done (s : State) : (s.clearDone).done = false := rfl
@[simp] theorem State.clearDone_err (s : State) : (s.clearDone).err = false := rfl
@[simp] theorem State.clearDone_errCode (s : State) : (s.clearDone).errCode = 0 := rfl
@[simp] theorem State.clearDone_ie (s : State) : (s.clearDone).ie = s.ie := rfl
@[simp] theorem State.clearDone_cmd (s : State) : (s.clearDone).cmd = s.cmd := rfl
@[simp] theorem State.clearDone_blksz (s : State) : (s.clearDone).blksz = s.blksz := rfl
@[simp] theorem State.clearDone_args (s : State) : (s.clearDone).args = s.args := rfl
@[simp] theorem State.clearDone_resLen (s : State) : (s.clearDone).resLen = s.resLen := rfl
@[simp] theorem State.clearDone_resKey (s : State) : (s.clearDone).resKey = s.resKey := rfl
@[simp] theorem State.clearDone_resIdx (s : State) : (s.clearDone).resIdx = s.resIdx := rfl
@[simp] theorem State.clearDone_resScore (s : State) : (s.clearDone).resScore = s.resScore := rfl
@[simp] theorem State.clearDone_refValid (s : State) : (s.clearDone).refValid = s.refValid := rfl
@[simp] theorem State.clearDone_ref (s : State) : (s.clearDone).ref = s.ref := rfl
@[simp] theorem State.clearDone_bufSize (s : State) : (s.clearDone).bufSize = s.bufSize := rfl
@[simp] theorem State.clearDone_sp (s : State) : (s.clearDone).sp = s.sp := rfl
@[simp] theorem State.clearDone_engine (s : State) : (s.clearDone).engine = s.engine := rfl
@[simp] theorem State.clearDone_snap (s : State) : (s.clearDone).snap = s.snap := rfl
@[simp] theorem State.clearDone_pend (s : State) : (s.clearDone).pend = s.pend := rfl
@[simp] theorem State.clearDone_dirty (s : State) : (s.clearDone).dirty = s.dirty := rfl
@[simp] theorem State.clearDone_progress (s : State) : (s.clearDone).progress = s.progress := rfl
@[simp] theorem State.clearDone_inputs (s : State) : (s.clearDone).inputs = s.inputs := rfl
@[simp] theorem State.clearDone_hostResp (s : State) : (s.clearDone).hostResp = s.hostResp := rfl
@[simp] theorem State.clearDone_draws (s : State) : (s.clearDone).draws = s.draws := rfl
@[simp] theorem State.clearDone_issued (s : State) : (s.clearDone).issued = s.issued := rfl
@[simp] theorem State.clearDone_epoch (s : State) : (s.clearDone).epoch = s.epoch := rfl
@[simp] theorem State.clearDone_blkLen (s : State) : (s.clearDone).blkLen = s.blkLen := rfl
@[simp] theorem State.clearDone_snapRef (s : State) : (s.clearDone).snapRef = s.snapRef := rfl
@[simp] theorem State.clearDone_arg (s : State) (i : Fin 8) :
    (s.clearDone).arg i = s.arg i := rfl
@[simp] theorem State.clearDone_byteAt (s : State) (adr : Nat) :
    (s.clearDone).byteAt adr = s.byteAt adr := rfl
@[simp] theorem State.clearDone_busy (s : State) : (s.clearDone).busy = s.busy := rfl

/-! ## scramble -/

@[simp] theorem State.scramble_sym (s : State) (r : Region) : (s.scramble r).sym = s.sym := rfl
@[simp] theorem State.scramble_done (s : State) (r : Region) : (s.scramble r).done = s.done := rfl
@[simp] theorem State.scramble_err (s : State) (r : Region) : (s.scramble r).err = s.err := rfl
@[simp] theorem State.scramble_errCode (s : State) (r : Region) :
    (s.scramble r).errCode = s.errCode := rfl
@[simp] theorem State.scramble_ie (s : State) (r : Region) : (s.scramble r).ie = s.ie := rfl
@[simp] theorem State.scramble_cmd (s : State) (r : Region) : (s.scramble r).cmd = s.cmd := rfl
@[simp] theorem State.scramble_blksz (s : State) (r : Region) :
    (s.scramble r).blksz = s.blksz := rfl
@[simp] theorem State.scramble_args (s : State) (r : Region) : (s.scramble r).args = s.args := rfl
@[simp] theorem State.scramble_resLen (s : State) (r : Region) :
    (s.scramble r).resLen = s.resLen := rfl
@[simp] theorem State.scramble_resKey (s : State) (r : Region) :
    (s.scramble r).resKey = s.resKey := rfl
@[simp] theorem State.scramble_resIdx (s : State) (r : Region) :
    (s.scramble r).resIdx = s.resIdx := rfl
@[simp] theorem State.scramble_resScore (s : State) (r : Region) :
    (s.scramble r).resScore = s.resScore := rfl
@[simp] theorem State.scramble_refValid (s : State) (r : Region) :
    (s.scramble r).refValid = s.refValid := rfl
@[simp] theorem State.scramble_ref (s : State) (r : Region) : (s.scramble r).ref = s.ref := rfl
@[simp] theorem State.scramble_bufSize (s : State) (r : Region) :
    (s.scramble r).bufSize = s.bufSize := rfl
@[simp] theorem State.scramble_sp (s : State) (r : Region) :
    (s.scramble r).sp = s.sp.write r.addr (s.freshBytes r.len) := rfl
@[simp] theorem State.scramble_engine (s : State) (r : Region) :
    (s.scramble r).engine = s.engine := rfl
@[simp] theorem State.scramble_snap (s : State) (r : Region) : (s.scramble r).snap = s.snap := rfl
@[simp] theorem State.scramble_pend (s : State) (r : Region) : (s.scramble r).pend = s.pend := rfl
@[simp] theorem State.scramble_dirty (s : State) (r : Region) :
    (s.scramble r).dirty = s.dirty := rfl
@[simp] theorem State.scramble_progress (s : State) (r : Region) :
    (s.scramble r).progress = s.progress := rfl
@[simp] theorem State.scramble_inputs (s : State) (r : Region) :
    (s.scramble r).inputs = s.inputs := rfl
@[simp] theorem State.scramble_hostResp (s : State) (r : Region) :
    (s.scramble r).hostResp = s.hostResp := rfl
@[simp] theorem State.scramble_draws (s : State) (r : Region) :
    (s.scramble r).draws = s.draws + r.len := rfl
@[simp] theorem State.scramble_issued (s : State) (r : Region) :
    (s.scramble r).issued = s.issued := rfl
@[simp] theorem State.scramble_epoch (s : State) (r : Region) :
    (s.scramble r).epoch = s.epoch := rfl
@[simp] theorem State.scramble_blkLen (s : State) (r : Region) :
    (s.scramble r).blkLen = s.blkLen := rfl
@[simp] theorem State.scramble_snapRef (s : State) (r : Region) :
    (s.scramble r).snapRef = s.snapRef := rfl
@[simp] theorem State.scramble_arg (s : State) (r : Region) (i : Fin 8) :
    (s.scramble r).arg i = s.arg i := rfl
@[simp] theorem State.scramble_busy (s : State) (r : Region) : (s.scramble r).busy = s.busy := rfl

/-! ## ecbRequest -/

@[simp] theorem State.ecbRequest_sym (s : State) (d : EcbDir) (l : CbcLocals) (x : List Byte) :
    (s.ecbRequest d l x).sym = s.sym := rfl
@[simp] theorem State.ecbRequest_done (s : State) (d : EcbDir) (l : CbcLocals) (x : List Byte) :
    (s.ecbRequest d l x).done = s.done := rfl
@[simp] theorem State.ecbRequest_err (s : State) (d : EcbDir) (l : CbcLocals) (x : List Byte) :
    (s.ecbRequest d l x).err = s.err := rfl
@[simp] theorem State.ecbRequest_errCode (s : State) (d : EcbDir) (l : CbcLocals) (x : List Byte) :
    (s.ecbRequest d l x).errCode = s.errCode := rfl
@[simp] theorem State.ecbRequest_ie (s : State) (d : EcbDir) (l : CbcLocals) (x : List Byte) :
    (s.ecbRequest d l x).ie = s.ie := rfl
@[simp] theorem State.ecbRequest_cmd (s : State) (d : EcbDir) (l : CbcLocals) (x : List Byte) :
    (s.ecbRequest d l x).cmd = s.cmd := rfl
@[simp] theorem State.ecbRequest_blksz (s : State) (d : EcbDir) (l : CbcLocals) (x : List Byte) :
    (s.ecbRequest d l x).blksz = s.blksz := rfl
@[simp] theorem State.ecbRequest_args (s : State) (d : EcbDir) (l : CbcLocals) (x : List Byte) :
    (s.ecbRequest d l x).args = s.args := rfl
@[simp] theorem State.ecbRequest_resLen (s : State) (d : EcbDir) (l : CbcLocals) (x : List Byte) :
    (s.ecbRequest d l x).resLen = s.resLen := rfl
@[simp] theorem State.ecbRequest_resKey (s : State) (d : EcbDir) (l : CbcLocals) (x : List Byte) :
    (s.ecbRequest d l x).resKey = s.resKey := rfl
@[simp] theorem State.ecbRequest_resIdx (s : State) (d : EcbDir) (l : CbcLocals) (x : List Byte) :
    (s.ecbRequest d l x).resIdx = s.resIdx := rfl
@[simp] theorem State.ecbRequest_resScore (s : State) (d : EcbDir) (l : CbcLocals) (x : List Byte) :
    (s.ecbRequest d l x).resScore = s.resScore := rfl
@[simp] theorem State.ecbRequest_refValid (s : State) (d : EcbDir) (l : CbcLocals) (x : List Byte) :
    (s.ecbRequest d l x).refValid = s.refValid := rfl
@[simp] theorem State.ecbRequest_ref (s : State) (d : EcbDir) (l : CbcLocals) (x : List Byte) :
    (s.ecbRequest d l x).ref = s.ref := rfl
@[simp] theorem State.ecbRequest_bufSize (s : State) (d : EcbDir) (l : CbcLocals) (x : List Byte) :
    (s.ecbRequest d l x).bufSize = s.bufSize := rfl
@[simp] theorem State.ecbRequest_sp (s : State) (d : EcbDir) (l : CbcLocals) (x : List Byte) :
    (s.ecbRequest d l x).sp = s.sp := rfl
@[simp] theorem State.ecbRequest_engine (s : State) (d : EcbDir) (l : CbcLocals) (x : List Byte) :
    (s.ecbRequest d l x).engine = .waitEcb := rfl
@[simp] theorem State.ecbRequest_snap (s : State) (d : EcbDir) (l : CbcLocals) (x : List Byte) :
    (s.ecbRequest d l x).snap = s.snap := rfl
@[simp] theorem State.ecbRequest_pend (s : State) (d : EcbDir) (l : CbcLocals) (x : List Byte) :
    (s.ecbRequest d l x).pend = some { dir := d, key := l.key, block := x } := rfl
@[simp] theorem State.ecbRequest_dirty (s : State) (d : EcbDir) (l : CbcLocals) (x : List Byte) :
    (s.ecbRequest d l x).dirty = s.dirty := rfl
@[simp] theorem State.ecbRequest_progress (s : State) (d : EcbDir) (l : CbcLocals) (x : List Byte) :
    (s.ecbRequest d l x).progress = .waiting l := rfl
@[simp] theorem State.ecbRequest_inputs (s : State) (d : EcbDir) (l : CbcLocals) (x : List Byte) :
    (s.ecbRequest d l x).inputs = s.inputs := rfl
@[simp] theorem State.ecbRequest_hostResp (s : State) (d : EcbDir) (l : CbcLocals) (x : List Byte) :
    (s.ecbRequest d l x).hostResp = s.hostResp := rfl
@[simp] theorem State.ecbRequest_draws (s : State) (d : EcbDir) (l : CbcLocals) (x : List Byte) :
    (s.ecbRequest d l x).draws = s.draws := rfl
@[simp] theorem State.ecbRequest_issued (s : State) (d : EcbDir) (l : CbcLocals) (x : List Byte) :
    (s.ecbRequest d l x).issued = s.issued + 1 := rfl
@[simp] theorem State.ecbRequest_epoch (s : State) (d : EcbDir) (l : CbcLocals) (x : List Byte) :
    (s.ecbRequest d l x).epoch = s.epoch := rfl
@[simp] theorem State.ecbRequest_blkLen (s : State) (d : EcbDir) (l : CbcLocals) (x : List Byte) :
    (s.ecbRequest d l x).blkLen = s.blkLen := rfl
@[simp] theorem State.ecbRequest_snapRef (s : State) (d : EcbDir) (l : CbcLocals) (x : List Byte) :
    (s.ecbRequest d l x).snapRef = s.snapRef := rfl
@[simp] theorem State.ecbRequest_arg (s : State) (d : EcbDir) (l : CbcLocals) (x : List Byte) (i : Fin 8) :
    (s.ecbRequest d l x).arg i = s.arg i := rfl
@[simp] theorem State.ecbRequest_byteAt (s : State) (d : EcbDir) (l : CbcLocals) (x : List Byte) (adr : Nat) :
    (s.ecbRequest d l x).byteAt adr = s.byteAt adr := rfl

/-! ## ecbAnswer -/

@[simp] theorem State.ecbAnswer_sym (s : State) (a : EcbAnswer) : (s.ecbAnswer a).sym = s.sym := rfl
@[simp] theorem State.ecbAnswer_done (s : State) (a : EcbAnswer) :
    (s.ecbAnswer a).done = s.done := rfl
@[simp] theorem State.ecbAnswer_err (s : State) (a : EcbAnswer) : (s.ecbAnswer a).err = s.err := rfl
@[simp] theorem State.ecbAnswer_errCode (s : State) (a : EcbAnswer) :
    (s.ecbAnswer a).errCode = s.errCode := rfl
@[simp] theorem State.ecbAnswer_ie (s : State) (a : EcbAnswer) : (s.ecbAnswer a).ie = s.ie := rfl
@[simp] theorem State.ecbAnswer_cmd (s : State) (a : EcbAnswer) : (s.ecbAnswer a).cmd = s.cmd := rfl
@[simp] theorem State.ecbAnswer_blksz (s : State) (a : EcbAnswer) :
    (s.ecbAnswer a).blksz = s.blksz := rfl
@[simp] theorem State.ecbAnswer_args (s : State) (a : EcbAnswer) :
    (s.ecbAnswer a).args = s.args := rfl
@[simp] theorem State.ecbAnswer_resLen (s : State) (a : EcbAnswer) :
    (s.ecbAnswer a).resLen = s.resLen := rfl
@[simp] theorem State.ecbAnswer_resKey (s : State) (a : EcbAnswer) :
    (s.ecbAnswer a).resKey = s.resKey := rfl
@[simp] theorem State.ecbAnswer_resIdx (s : State) (a : EcbAnswer) :
    (s.ecbAnswer a).resIdx = s.resIdx := rfl
@[simp] theorem State.ecbAnswer_resScore (s : State) (a : EcbAnswer) :
    (s.ecbAnswer a).resScore = s.resScore := rfl
@[simp] theorem State.ecbAnswer_refValid (s : State) (a : EcbAnswer) :
    (s.ecbAnswer a).refValid = s.refValid := rfl
@[simp] theorem State.ecbAnswer_ref (s : State) (a : EcbAnswer) : (s.ecbAnswer a).ref = s.ref := rfl
@[simp] theorem State.ecbAnswer_bufSize (s : State) (a : EcbAnswer) :
    (s.ecbAnswer a).bufSize = s.bufSize := rfl
@[simp] theorem State.ecbAnswer_sp (s : State) (a : EcbAnswer) : (s.ecbAnswer a).sp = s.sp := rfl
@[simp] theorem State.ecbAnswer_engine (s : State) (a : EcbAnswer) :
    (s.ecbAnswer a).engine = .run := rfl
@[simp] theorem State.ecbAnswer_snap (s : State) (a : EcbAnswer) :
    (s.ecbAnswer a).snap = s.snap := rfl
@[simp] theorem State.ecbAnswer_pend (s : State) (a : EcbAnswer) :
    (s.ecbAnswer a).pend = none := rfl
@[simp] theorem State.ecbAnswer_dirty (s : State) (a : EcbAnswer) :
    (s.ecbAnswer a).dirty = s.dirty := rfl
@[simp] theorem State.ecbAnswer_inputs (s : State) (a : EcbAnswer) :
    (s.ecbAnswer a).inputs = s.inputs := rfl
@[simp] theorem State.ecbAnswer_hostResp (s : State) (a : EcbAnswer) :
    (s.ecbAnswer a).hostResp = s.hostResp := rfl
@[simp] theorem State.ecbAnswer_draws (s : State) (a : EcbAnswer) :
    (s.ecbAnswer a).draws = s.draws := rfl
@[simp] theorem State.ecbAnswer_issued (s : State) (a : EcbAnswer) :
    (s.ecbAnswer a).issued = s.issued := rfl
@[simp] theorem State.ecbAnswer_epoch (s : State) (a : EcbAnswer) :
    (s.ecbAnswer a).epoch = s.epoch := rfl
@[simp] theorem State.ecbAnswer_blkLen (s : State) (a : EcbAnswer) :
    (s.ecbAnswer a).blkLen = s.blkLen := rfl
@[simp] theorem State.ecbAnswer_snapRef (s : State) (a : EcbAnswer) :
    (s.ecbAnswer a).snapRef = s.snapRef := rfl
@[simp] theorem State.ecbAnswer_arg (s : State) (a : EcbAnswer) (i : Fin 8) :
    (s.ecbAnswer a).arg i = s.arg i := rfl
@[simp] theorem State.ecbAnswer_byteAt (s : State) (a : EcbAnswer) (adr : Nat) :
    (s.ecbAnswer a).byteAt adr = s.byteAt adr := rfl

end Sys2Proof.Machine
end

