-- ==== Sys2Proof/Laws/Ops.lean ====
section
/-! SUPPORT. What the shared operations can do, said once: checks, guarded bodies, the decoder. -/

namespace Sys2Proof.Machine

@[simp] theorem firstFailure_nil : firstFailure [] = none := rfl

theorem firstFailure_append (xs ys : List Check) :
    firstFailure (xs ++ ys) = (firstFailure xs).or (firstFailure ys) := by
  induction xs with
  | nil => simp
  | cons c cs ih =>
    simp only [List.cons_append, firstFailure, ih]
    split <;> simp

/-- No check fails exactly when every check passes. -/
theorem firstFailure_eq_none_iff (cs : List Check) :
    firstFailure cs = none ↔ ∀ c ∈ cs, c.ok = true := by
  induction cs with
  | nil => simp
  | cons c cs ih =>
    simp only [firstFailure, List.mem_cons, forall_eq_or_imp, ← ih]
    split
    · next h => simp [h]
    · next h => simp [h]

/-- A reported error is the code of some check that fails. -/
theorem firstFailure_eq_some (cs : List Check) (e : ErrCode) (h : firstFailure cs = some e) :
    ∃ c ∈ cs, c.ok = false ∧ c.code = e := by
  induction cs with
  | nil => simp at h
  | cons c cs ih =>
    simp only [firstFailure] at h
    split at h
    · obtain ⟨d, hd, hok⟩ := ih h
      exact ⟨d, List.mem_cons_of_mem _ hd, hok⟩
    · next hc => exact ⟨c, List.mem_cons_self, by simpa using hc, by simpa using h⟩

/-- Everything a guarded body can do: raise the first failure, or run. -/
theorem State.guarded_cases (s : State) (cs : List Check) (body : State) :
    (∃ e, firstFailure cs = some e ∧ s.guarded cs body = s.raiseError e)
      ∨ (firstFailure cs = none ∧ s.guarded cs body = body) := by
  unfold State.guarded
  cases h : firstFailure cs with
  | none => exact .inr ⟨rfl, rfl⟩
  | some e => exact .inl ⟨e, rfl, rfl⟩

theorem State.guarded_of_none (s : State) (cs : List Check) (body : State)
    (h : firstFailure cs = none) : s.guarded cs body = body := by simp [State.guarded, h]

theorem State.guarded_of_some (s : State) (cs : List Check) (body : State) (e : ErrCode)
    (h : firstFailure cs = some e) : s.guarded cs body = s.raiseError e := by
  simp [State.guarded, h]

@[simp] theorem need_ok (p : Bool) (e : ErrCode) : (need p e).ok = p := rfl

@[simp] theorem need_code (p : Bool) (e : ErrCode) : (need p e).code = e := rfl

theorem State.needRange_ok_iff (s : State) (r : Region) :
    (s.needRange r).ok = true ↔ r.addr + r.len ≤ s.bufSize := by
  simp [State.needRange, Region.inRange]

@[simp] theorem State.needRange_code (s : State) (r : Region) : (s.needRange r).code = .range := rfl

/-- Disjointness in terms of ends (R71). -/
theorem Region.overlaps_eq_false_iff (o r : Region) :
    o.overlaps r = false ↔
      o.len = 0 ∨ r.len = 0 ∨ r.addr + r.len ≤ o.addr ∨ o.addr + o.len ≤ r.addr := by
  simp only [Region.overlaps, decide_eq_false_iff_not]
  omega

theorem firstFailure_needDisjoint (o : Region) (rs : List Region) :
    firstFailure (needDisjoint o rs) = none ↔ ∀ r ∈ rs, o.overlaps r = false := by
  simp [firstFailure_eq_none_iff, needDisjoint]

/-- The engine's turn when it runs a legal command. -/
theorem engineStep_of_fetch (s : State) (i : Instr) (hrun : s.engine = .run)
    (h : s.fetch = .ok i) : engineStep s = exec i s := by simp [engineStep, runFetched, hrun, h]

theorem State.busy_iff (s : State) : s.busy = true ↔ s.engine ≠ .idle := by simp [State.busy]

end Sys2Proof.Machine
end

