-- ==== Sys2Proof/Laws/Commands.lean ====
section
/-! SUPPORT. What every command shares: completion as a frame, its checks as conditions on regions, its
meaning as a guarded body. -/

namespace Sys2Proof.Machine

/-! ## Completion -/

theorem State.succeeded_finish (s : State) : Succeeded s.finish :=
  ⟨rfl, rfl, rfl, ⟨rfl, rfl, rfl, rfl⟩⟩

theorem State.failed_raiseError (s : State) (c : ErrCode) : Failed c.code (s.raiseError c) :=
  ⟨rfl, rfl, rfl, ⟨rfl, rfl, rfl, rfl⟩⟩

theorem State.failedCleanly_raiseError (s : State) (c : ErrCode) :
    FailedCleanly c.code s (s.raiseError c) where
  failed := s.failed_raiseError c
  sp := fun _ => rfl
  ref := ⟨rfl, rfl⟩
  results := ⟨rfl, rfl, rfl, rfl⟩
  setup := ⟨rfl, rfl, rfl, rfl, rfl, rfl, rfl, rfl, rfl, rfl⟩

/-- A region just written keeps every byte outside it, and holds what was written. -/
theorem State.sameSpOutside_memWrite (s : State) (r : Region) (bs : List Byte)
    (h : bs.length = r.len) : SameSpOutside r s (s.memWrite r.addr bs) := fun a ha =>
  State.byteAt_memWrite_outside s r.addr a bs (by rw [h]; exact ha)

theorem State.holdsAt_memWrite (s : State) (a : Nat) (bs : List Byte) :
    HoldsAt (s.memWrite a bs) a bs := s.memRead_memWrite a bs

/-! ## Checks as conditions -/

@[simp] theorem firstFailure_cons_eq_none (c : Check) (cs : List Check) :
    firstFailure (c :: cs) = none ↔ c.ok = true ∧ firstFailure cs = none := by
  simp only [firstFailure]
  split
  · next h => simp [h]
  · next h => simp [h]

@[simp] theorem firstFailure_append_eq_none (xs ys : List Check) :
    firstFailure (xs ++ ys) = none ↔ firstFailure xs = none ∧ firstFailure ys = none := by
  rw [firstFailure_append, Option.or_eq_none_iff]

@[simp] theorem State.needRange_ok (s : State) (r : Region) :
    (s.needRange r).ok = true ↔ r.Fits s := s.needRange_ok_iff r

theorem Region.apart_iff (o r : Region) : o.Apart r ↔ o.overlaps r = false :=
  (Region.overlaps_eq_false_iff o r).symm

@[simp] theorem firstFailure_needDisjoint_eq_none (o : Region) (rs : List Region) :
    firstFailure (needDisjoint o rs) = none ↔ ∀ r ∈ rs, o.Apart r := by
  rw [firstFailure_needDisjoint]
  simp only [Region.apart_iff]

@[simp] theorem State.needPos_ok (s : State) (i : Fin 8) (e : ErrCode) :
    (s.needPos i e).ok = true ↔ 0 < s.arg i := by simp [State.needPos]

@[simp] theorem State.needRef_ok (s : State) : s.needRef.ok = true ↔ s.snap.refValid = true := by
  simp [State.needRef]

@[simp] theorem State.needBlk_ok (s : State) : s.needBlk.ok = true ↔ 0 < s.blkLen := by
  simp [State.needBlk]

@[simp] theorem State.needIv_ok (s : State) : s.needIv.ok = true ↔ s.arg 5 = s.blkLen := by
  simp [State.needIv]

theorem State.tableOk_iff (s : State) (a : Nat) :
    s.tableOk a = true ↔ ∀ v, v < 256 → weightOk (s.f64At (a + 8 * v)) = true := by
  simp [State.tableOk, State.tableAt]

/-- The descriptor entries of a table in range (R74). -/
theorem State.descEntries_of_fits (s : State) (h : s.descTable.Fits s) :
    s.descEntries = (List.range (s.arg 1)).map s.descEntry := by
  have : s.descTable.inRange s.bufSize = true := by
    simpa [Region.inRange, Region.Fits] using h
  simp [State.descEntries, this]

theorem xorChecks_none_iff (s : State) : firstFailure (xorChecks s) = none ↔
    s.arg 1 = s.arg 3 ∧ (s.argRegion 0 1).Fits s ∧ (s.argRegion 2 3).Fits s ∧
      (s.argRegion 4 1).Fits s ∧ (s.argRegion 4 1).Apart (s.argRegion 0 1) ∧
      (s.argRegion 4 1).Apart (s.argRegion 2 3) := by
  simp [xorChecks]

theorem rxorChecks_none_iff (s : State) : firstFailure (rxorChecks s) = none ↔
    0 < s.arg 1 ∧ (s.argRegion 0 1).Fits s ∧ (s.argRegion 2 3).Fits s ∧
      (s.argRegion 4 3).Fits s ∧ (s.argRegion 4 3).Apart (s.argRegion 0 1) ∧
      (s.argRegion 4 3).Apart (s.argRegion 2 3) := by
  simp [rxorChecks]

theorem histChecks_none_iff (s : State) : firstFailure (histChecks s) = none ↔
    (s.argRegion 0 1).Fits s ∧ (s.argSized 2 1028).Fits s ∧
      (s.argSized 2 1028).Apart (s.argRegion 0 1) := by
  simp [histChecks, histLen]

theorem relfreqChecks_none_iff (s : State) : firstFailure (relfreqChecks s) = none ↔
    0 < s.arg 1 ∧ (s.argRegion 0 1).Fits s ∧ (s.argSized 2 2056).Fits s ∧
      (s.argSized 2 2056).Apart (s.argRegion 0 1) := by
  simp [relfreqChecks, freqLen]

theorem bcoefChecks_none_iff (s : State) : firstFailure (bcoefChecks s) = none ↔
    (s.argSized 0 2048).Fits s ∧ (s.argSized 1 2048).Fits s ∧ s.tableOk (s.arg 0) = true ∧
      s.tableOk (s.arg 1) = true := by
  simp [bcoefChecks, tableLen]

theorem scoreChecks_none_iff (s : State) : firstFailure (scoreChecks s) = none ↔
    0 < s.arg 1 ∧ s.snap.refValid = true ∧ (s.argRegion 0 1).Fits s := by
  simp [scoreChecks]

theorem ldrefChecks_none_iff (s : State) : firstFailure (ldrefChecks s) = none ↔
    (s.argSized 0 2048).Fits s ∧ s.tableOk (s.arg 0) = true := by
  simp [ldrefChecks, tableLen]

theorem xscoreChecks_none_iff (s : State) : firstFailure (xscoreChecks s) = none ↔
    0 < s.arg 1 ∧ 0 < s.arg 3 ∧ s.snap.refValid = true ∧ (s.argRegion 0 1).Fits s ∧
      (s.argRegion 2 3).Fits s ∧ (s.argRegion 4 3).Fits s ∧
      (s.argRegion 4 3).Apart (s.argRegion 0 1) ∧ (s.argRegion 4 3).Apart (s.argRegion 2 3) := by
  simp [xscoreChecks]

theorem firstFailure_entryChecks (s : State) (e : ErrCode) (rs : List Region) :
    firstFailure (rs.flatMap (s.entryChecks e)) = none ↔ ∀ r ∈ rs, r.Fits s ∧ 0 < r.len := by
  induction rs with
  | nil => simp
  | cons r rs ih => simp [State.entryChecks, ih, and_assoc]

theorem bestxorChecks_none_iff (s : State) : firstFailure (bestxorChecks s) = none ↔
    0 < s.arg 1 ∧ 0 < s.arg 3 ∧ s.snap.refValid = true ∧ s.descTable.Fits s ∧
      (s.argRegion 2 3).Fits s ∧ (s.argRegion 4 3).Fits s ∧
      (∀ r ∈ s.descEntries, r.Fits s ∧ 0 < r.len) ∧
      (s.argRegion 4 3).Apart s.descTable ∧ (s.argRegion 4 3).Apart (s.argRegion 2 3) ∧
      ∀ r ∈ s.descEntries, (s.argRegion 4 3).Apart r := by
  simp only [bestxorChecks, firstFailure_append_eq_none, firstFailure_entryChecks,
    firstFailure_needDisjoint_eq_none]
  simp [and_assoc]

theorem sbxorChecks_none_iff (s : State) : firstFailure (sbxorChecks s) = none ↔
    0 < s.arg 1 ∧ s.snap.refValid = true ∧ (s.argRegion 0 1).Fits s ∧ (s.argRegion 2 1).Fits s ∧
      (s.argRegion 2 1).Apart (s.argRegion 0 1) := by
  simp [sbxorChecks]

theorem detectChecks_none_iff (s : State) : firstFailure (detectChecks s) = none ↔
    0 < s.arg 1 ∧ s.snap.refValid = true ∧ s.descTable.Fits s ∧
      (∀ r ∈ s.descEntries, r.Fits s ∧ 0 < r.len) ∧
      (s.argSized 2 (maxLen s.descEntries)).Fits s ∧
      (s.argSized 2 (maxLen s.descEntries)).Apart s.descTable ∧
      ∀ r ∈ s.descEntries, (s.argSized 2 (maxLen s.descEntries)).Apart r := by
  simp only [detectChecks, firstFailure_append_eq_none, firstFailure_entryChecks,
    firstFailure_needDisjoint_eq_none]
  simp [and_assoc]

theorem padChecks_none_iff (s : State) : firstFailure (padChecks s) = none ↔
    0 < s.blkLen ∧ (s.argRegion 0 1).Fits s ∧
      (s.argSized 2 (s.arg 1 + padLen (s.arg 1) s.blkLen)).Fits s ∧
      (s.argSized 2 (s.arg 1 + padLen (s.arg 1) s.blkLen)).Apart (s.argRegion 0 1) := by
  simp [padChecks]

theorem unpadChecks_none_iff (s : State) : firstFailure (unpadChecks s) = none ↔
    0 < s.arg 1 ∧ (s.argRegion 0 1).Fits s ∧ s.unpadByte ≤ s.arg 1 ∧
      (s.argSized 2 (s.arg 1 - s.unpadByte)).Fits s ∧
      (s.argSized 2 (s.arg 1 - s.unpadByte)).Apart (s.argRegion 0 1) := by
  simp [unpadChecks]

theorem cbcencChecks_none_iff (s : State) : firstFailure (cbcencChecks s) = none ↔
    0 < s.blkLen ∧ s.arg 5 = s.blkLen ∧ (s.argRegion 0 1).Fits s ∧ (s.argRegion 2 3).Fits s ∧
      (s.argRegion 4 5).Fits s ∧ (s.argSized 6 (s.arg 1 + padLen (s.arg 1) s.blkLen)).Fits s ∧
      (s.argSized 6 (s.arg 1 + padLen (s.arg 1) s.blkLen)).Apart (s.argRegion 0 1) ∧
      (s.argSized 6 (s.arg 1 + padLen (s.arg 1) s.blkLen)).Apart (s.argRegion 2 3) ∧
      (s.argSized 6 (s.arg 1 + padLen (s.arg 1) s.blkLen)).Apart (s.argRegion 4 5) := by
  simp [cbcencChecks]

theorem cbcdecChecks_none_iff (s : State) : firstFailure (cbcdecChecks s) = none ↔
    0 < s.blkLen ∧ s.arg 5 = s.blkLen ∧ s.arg 1 % s.blkLen = 0 ∧ 0 < s.arg 1 ∧
      (s.argRegion 0 1).Fits s ∧ (s.argRegion 2 3).Fits s ∧ (s.argRegion 4 5).Fits s ∧
      (s.argRegion 6 1).Fits s ∧ (s.argRegion 6 1).Apart (s.argRegion 0 1) ∧
      (s.argRegion 6 1).Apart (s.argRegion 2 3) ∧ (s.argRegion 6 1).Apart (s.argRegion 4 5) := by
  simp [cbcdecChecks]

/-! ## Steps -/

/-- The body of a command that takes its whole effect in one engine step. -/
def commandBody (i : Instr) (s : State) : State :=
  match i with
  | .xor => xorBody s
  | .rxor => rxorBody s
  | .hist => histBody s
  | .relfreq => relfreqBody s
  | .bcoef => bcoefBody s
  | .score => scoreBody s
  | .ldref => ldrefBody s
  | .xscore => xscoreBody s
  | .bestxor => bestxorBody s
  | .sbxor => sbxorBody s
  | .detect => detectBody s
  | .pad => padBody s
  | .unpad => unpadBody s
  | .cbcenc => cbcencStart s
  | .cbcdec => cbcdecStart s

/-- Every command that has not begun: its checks, then its body. -/
theorem exec_fresh (i : Instr) (s : State) (h : s.progress = .fresh) :
    exec i s = .next (s.guarded (validation i s) (commandBody i s)) := by
  cases i <;> first | rfl | simp [exec, execCbcenc, execCbcdec, h, validation, commandBody]

/-- The commands other than CBCENC and CBCDEC do not look at the progress. -/
theorem exec_of_not_cbc (i : Instr) (s : State) (he : i ≠ .cbcenc) (hd : i ≠ .cbcdec) :
    exec i s = .next (s.guarded (validation i s) (commandBody i s)) := by
  cases i <;> first | rfl | exact absurd rfl he | exact absurd rfl hd

/-- Everything a step can be: a turn of the engine, or the next input. -/
theorem step_cases (s t : State) (h : step s = .next t) :
    (s.inputs = [] ∧ engineStep s = .next t) ∨
      ∃ e rest, s.inputs = e :: rest ∧ inputStep e { s with inputs := rest } = .next t := by
  unfold step at h
  split at h
  · next hi => exact .inl ⟨hi, h⟩
  · next e rest hi => exact .inr ⟨e, rest, hi, h⟩

/-- Everything a turn of the engine can do. -/
theorem engineStep_cases (s t : State) (h : engineStep s = .next t) :
    (s.engine ≠ .run ∧ t = s) ∨
      (s.engine = .run ∧ (∃ e, s.fetch = .error e) ∧ t = s.raiseError .illegalCmd) ∨
      (s.engine = .run ∧ ∃ i, s.fetch = .ok i ∧ exec i s = .next t) := by
  unfold engineStep at h
  split at h
  · next he => cases h; exact .inl ⟨by simp [he], rfl⟩
  · next he => cases h; exact .inl ⟨by simp [he], rfl⟩
  · next he =>
    unfold runFetched at h
    split at h
    · next e hf => cases h; exact .inr (.inl ⟨he, ⟨e, hf⟩, rfl⟩)
    · next i hf => exact .inr (.inr ⟨he, i, hf, h⟩)

/-- Everything an oracle answer can do: nothing, or it answers the outstanding request. -/
theorem oracleStep_cases (n : Nat) (a : EcbAnswer) (s t : State) (h : oracleStep n a s = .next t) :
    ((s.engine ≠ .waitEcb ∨ n ≠ s.issued) ∧ t = s) ∨
      (s.engine = .waitEcb ∧ n = s.issued ∧ (∀ y, a = .ok y → y.length = s.blkLen) ∧
        t = s.ecbAnswer a) := by
  unfold oracleStep deliverAnswer at h
  split at h
  · next he => cases h; exact .inl ⟨.inl (by simp [he]), rfl⟩
  · next he => cases h; exact .inl ⟨.inl (by simp [he]), rfl⟩
  · next he =>
    split at h
    · next hn =>
      split at h
      · cases h; exact .inr ⟨he, hn, (fun y hy => by cases hy), rfl⟩
      · split at h
        · next y hl => cases h; exact .inr ⟨he, hn, (fun z hz => by cases hz; exact hl), rfl⟩
        · cases h
    · next hn => cases h; exact .inl ⟨.inr hn, rfl⟩

/-- A command whose first failing check is known ends with its code, and nothing else changes. -/
theorem endsWith_of_firstFailure (i : Instr) (s : State) (e : ErrCode)
    (hp : (i ≠ .cbcenc ∧ i ≠ .cbcdec) ∨ s.progress = .fresh)
    (h : firstFailure (validation i s) = some e) : EndsWith i e.code s := by
  have hx : exec i s = .next (s.guarded (validation i s) (commandBody i s)) := by
    rcases hp with hp | hp
    · exact exec_of_not_cbc i s hp.1 hp.2
    · exact exec_fresh i s hp
  rw [State.guarded_of_some _ _ _ e h] at hx
  exact ⟨_, hx, s.failedCleanly_raiseError e⟩

/-- A failing disjointness check is E_OVERLAP. -/
theorem firstFailure_needDisjoint_eq_some (o : Region) (rs : List Region)
    (h : ¬∀ r ∈ rs, o.Apart r) : firstFailure (needDisjoint o rs) = some .overlap := by
  rw [← firstFailure_needDisjoint_eq_none] at h
  cases hf : firstFailure (needDisjoint o rs) with
  | none => exact absurd hf h
  | some e =>
    obtain ⟨c, hc, _, rfl⟩ := firstFailure_eq_some _ _ hf
    simp only [needDisjoint, List.mem_map] at hc
    obtain ⟨r, _, rfl⟩ := hc
    rfl

/-! ## Lengths and ranges of outputs -/

theorem length_flatMap_range (f : Nat → List Byte) (k : Nat) (h : ∀ v, (f v).length = k) (n : Nat) :
    ((List.range n).flatMap f).length = n * k := by
  induction n with
  | zero => simp
  | succ n ih =>
    rw [List.range_succ, List.flatMap_append, List.length_append, ih]
    simp [h, Nat.succ_mul]

@[simp] theorem histBlock_length (p : List Byte) (sym : Bool) : (histBlock p sym).length = 1028 := by
  rw [histBlock, length_flatMap_range _ 4 (by simp)]

@[simp] theorem freqBlock_length (p : List Byte) (sym : Bool) : (freqBlock p sym).length = 2056 := by
  rw [freqBlock, length_flatMap_range _ 8 (by simp)]

@[simp] theorem sbsearch_plain_length (c : List Byte) (sym : Bool) (ref : Nat → F64) :
    (sbsearch c sym ref).plain.length = c.length := by simp [sbsearch, singleByteXor]

theorem len_le_maxLen (rs : List Region) (r : Region) (h : r ∈ rs) : r.len ≤ maxLen rs := by
  induction rs with
  | nil => cases h
  | cons x xs ih =>
    simp only [maxLen]
    rcases List.mem_cons.mp h with rfl | h
    · exact le_max_left _ _
    · exact le_trans (ih h) (le_max_right _ _)

/-- UNPAD's byte is the last byte of its source. -/
theorem State.unpadByte_eq (s : State) (h : 0 < s.arg 1) :
    ((s.readRegion (s.argRegion 0 1)).getLastD 0).toNat = s.unpadByte := by
  obtain ⟨n, hn⟩ : ∃ n, s.arg 1 = n + 1 := ⟨s.arg 1 - 1, by omega⟩
  simp only [State.readRegion, State.argRegion, State.memRead, State.unpadByte, hn, List.range_succ,
    List.map_append]
  simp

/-- The output region of a command that passes its checks is in range (R70). -/
theorem outputRegion_fits (i : Instr) (s : State) (r : Region)
    (hv : firstFailure (validation i s) = none) (hr : outputRegion i s = some r) : r.Fits s := by
  cases i <;> simp only [validation] at hv <;> simp only [outputRegion] at hr <;> cases hr
  · exact ((xorChecks_none_iff s).mp hv).2.2.2.1
  · exact ((rxorChecks_none_iff s).mp hv).2.2.2.1
  · exact ((histChecks_none_iff s).mp hv).2.1
  · exact ((relfreqChecks_none_iff s).mp hv).2.2.1
  · exact ((xscoreChecks_none_iff s).mp hv).2.2.2.2.2.1
  · exact ((bestxorChecks_none_iff s).mp hv).2.2.2.2.2.1
  · exact ((sbxorChecks_none_iff s).mp hv).2.2.2.1
  · exact ((detectChecks_none_iff s).mp hv).2.2.2.2.1
  · exact ((padChecks_none_iff s).mp hv).2.2.1
  · exact ((unpadChecks_none_iff s).mp hv).2.2.2.1
  · exact ((cbcencChecks_none_iff s).mp hv).2.2.2.2.2.1
  · exact ((cbcdecChecks_none_iff s).mp hv).2.2.2.2.2.2.2.1

/-! ## DIRTY from START on -/

theorem Region.within_fits (r : Region) (s : State) : (r.within s.bufSize).Fits s := by
  simp only [Region.Fits, Region.within]
  omega

theorem Region.within_of_fits (r : Region) (s : State) (h : r.Fits s) :
    r.within s.bufSize = r := by
  simp only [Region.Fits] at h
  have h1 : min r.addr s.bufSize = r.addr := by omega
  have h2 : min (r.addr + r.len) s.bufSize - r.addr = r.len := by omega
  simp only [Region.within, h1, h2]

/-- A region in range is the part of it inside the scratchpad, as to its bytes. -/
theorem Region.mem_within (r : Region) (n a : Nat) (h : a < n) :
    ((r.within n).addr ≤ a ∧ a < (r.within n).addr + (r.within n).len)
      ↔ (r.addr ≤ a ∧ a < r.addr + r.len) := by
  simp only [Region.within]
  omega

theorem outputDefined_of_valid (i : Instr) (s : State) (hv : firstFailure (validation i s) = none) :
    outputDefined i s = true := by
  cases i <;> simp only [validation] at hv <;> try rfl
  · have h := (detectChecks_none_iff s).mp hv
    have ht : s.descTable.inRange s.bufSize = true := by
      simpa [Region.inRange, Region.Fits] using h.2.2.1
    simp [outputDefined, h.1, ht]
  · simp [outputDefined, ((padChecks_none_iff s).mp hv).1]
  · have h := (unpadChecks_none_iff s).mp hv
    have ht : (s.argRegion 0 1).inRange s.bufSize = true := by
      simpa [Region.inRange, Region.Fits] using h.2.1
    simp [outputDefined, h.1, h.2.2.1, ht]
  · simp [outputDefined, ((cbcencChecks_none_iff s).mp hv).1]

/-- Of a command that passes its checks, DIRTY is the whole output region. -/
theorem State.runningOutput_of_valid (s : State) (i : Instr) (hf : s.fetch = .ok i)
    (hv : firstFailure (validation i s) = none) : s.runningOutput = outputRegion i s := by
  simp only [State.runningOutput, hf, outputDefined_of_valid i s hv, if_true]
  cases hr : outputRegion i s with
  | none => rfl
  | some r => simp [r.within_of_fits s (outputRegion_fits i s r hv hr)]

/-- DIRTY is in range, whether or not the command passes its checks. -/
theorem State.runningOutput_fits (s : State) (r : Region) (h : s.runningOutput = some r) :
    r.Fits s := by
  simp only [State.runningOutput] at h
  split at h
  · cases h
  · split at h
    · simp only [Option.map_eq_some_iff] at h
      obtain ⟨o, _, rfl⟩ := h
      exact o.within_fits s
    · cases h

/-! ## The codes of checks -/

theorem needDisjoint_code (o : Region) (rs : List Region) :
    ∀ c ∈ needDisjoint o rs, c.code ≠ .keysizeTooLarge := by
  intro c hc
  simp only [needDisjoint, List.mem_map] at hc
  obtain ⟨r, _, rfl⟩ := hc
  simp

theorem entryChecks_code (s : State) (e : ErrCode) (rs : List Region) (he : e ≠ .keysizeTooLarge) :
    ∀ c ∈ rs.flatMap (s.entryChecks e), c.code ≠ .keysizeTooLarge := by
  intro c hc
  simp only [List.mem_flatMap, State.entryChecks, List.mem_cons, List.not_mem_nil, or_false] at hc
  obtain ⟨r, _, rfl | rfl⟩ := hc
  · simp
  · simpa using he

/-- R200: no check raises KeysizeTooLarge. -/
theorem validation_code (i : Instr) (s : State) :
    ∀ c ∈ validation i s, c.code ≠ .keysizeTooLarge := by
  cases i <;> simp only [validation, xorChecks, rxorChecks, histChecks, relfreqChecks, bcoefChecks,
    scoreChecks, ldrefChecks, xscoreChecks, bestxorChecks, sbxorChecks, detectChecks, padChecks,
    unpadChecks, cbcencChecks, cbcdecChecks, List.forall_mem_append, List.forall_mem_cons]
  all_goals
    repeat' apply And.intro
    all_goals first
      | exact needDisjoint_code _ _
      | exact entryChecks_code _ _ _ (by decide)
      | simp [State.needPos, State.needRef, State.needBlk, State.needIv, need, State.needRange]

end Sys2Proof.Machine
end

