-- ==== Sys2Proof/Laws/PerInstr.lean ====
section
/-! SUPPORT. The statements that are made of every command, as syntax: one lemma per constructor. -/

namespace Sys2Proof.Laws

/-- R90, R93: the CMD word of a command keeps its reserved field 0 and has an opcode that is not 0, and
no command names ARG7. -/
def CommandFormat.Statement (i : Instr) : Prop :=
  reservedField (encode i) = 0 ∧ 0 < opcodeField (encode i) ∧ operandCount i ≤ 7 ∧
    i.wellFormed = true

theorem CommandFormat.xor : CommandFormat.Statement .xor := by
  refine ⟨?_, ?_, ?_, ?_⟩ <;> decide

theorem CommandFormat.rxor : CommandFormat.Statement .rxor := by
  refine ⟨?_, ?_, ?_, ?_⟩ <;> decide

theorem CommandFormat.hist : CommandFormat.Statement .hist := by
  refine ⟨?_, ?_, ?_, ?_⟩ <;> decide

theorem CommandFormat.relfreq : CommandFormat.Statement .relfreq := by
  refine ⟨?_, ?_, ?_, ?_⟩ <;> decide

theorem CommandFormat.bcoef : CommandFormat.Statement .bcoef := by
  refine ⟨?_, ?_, ?_, ?_⟩ <;> decide

theorem CommandFormat.score : CommandFormat.Statement .score := by
  refine ⟨?_, ?_, ?_, ?_⟩ <;> decide

theorem CommandFormat.ldref : CommandFormat.Statement .ldref := by
  refine ⟨?_, ?_, ?_, ?_⟩ <;> decide

theorem CommandFormat.xscore : CommandFormat.Statement .xscore := by
  refine ⟨?_, ?_, ?_, ?_⟩ <;> decide

theorem CommandFormat.bestxor : CommandFormat.Statement .bestxor := by
  refine ⟨?_, ?_, ?_, ?_⟩ <;> decide

theorem CommandFormat.sbxor : CommandFormat.Statement .sbxor := by
  refine ⟨?_, ?_, ?_, ?_⟩ <;> decide

theorem CommandFormat.detect : CommandFormat.Statement .detect := by
  refine ⟨?_, ?_, ?_, ?_⟩ <;> decide

theorem CommandFormat.pad : CommandFormat.Statement .pad := by
  refine ⟨?_, ?_, ?_, ?_⟩ <;> decide

theorem CommandFormat.unpad : CommandFormat.Statement .unpad := by
  refine ⟨?_, ?_, ?_, ?_⟩ <;> decide

theorem CommandFormat.cbcenc : CommandFormat.Statement .cbcenc := by
  refine ⟨?_, ?_, ?_, ?_⟩ <;> decide

theorem CommandFormat.cbcdec : CommandFormat.Statement .cbcdec := by
  refine ⟨?_, ?_, ?_, ?_⟩ <;> decide

end Sys2Proof.Laws
end

