-- ==== Sys2Proof/Machine/AsmText.lean ====
section
/-! DEFINITION. The text of host programs (R97, R98): one statement a line, read into abstract syntax.
Numbers, separators and register names are as the rules and R21 write them. -/

namespace Sys2Proof.Machine

/-! ## Words and numbers -/

def isSpace (c : Char) : Bool := c == ' '

/-- The text without spaces at its ends. -/
def trimSpaces (cs : List Char) : List Char :=
  ((cs.dropWhile isSpace).reverse.dropWhile isSpace).reverse

/-- The value of a hexadecimal digit, in either case. -/
def hexDigit (c : Char) : Option Nat :=
  let n := c.toNat
  if 0x30 ≤ n ∧ n ≤ 0x39 then some (n - 0x30)
  else if 0x41 ≤ n ∧ n ≤ 0x46 then some (n - 0x41 + 10)
  else if 0x61 ≤ n ∧ n ≤ 0x66 then some (n - 0x61 + 10)
  else none

/-- The digits of a number in a base of at most 16, most significant first. -/
def readDigits (base : Nat) : Nat → List Char → Option Nat
  | acc, [] => some acc
  | acc, c :: cs =>
    match hexDigit c with
    | none => none
    | some d => if d < base then readDigits base (base * acc + d) cs else none

/-- A decimal integer, or a hexadecimal one after 0x, without the bound. -/
def readUnbounded : List Char → Option Nat
  | [] => none
  | ['0', 'x'] => none
  | '0' :: 'x' :: ds => readDigits 16 0 ds
  | ds => readDigits 10 0 ds

/-- An operand: a decimal or `0x` hexadecimal integer below 2^32 (R97). -/
def readNumber (cs : List Char) : Option Nat :=
  match readUnbounded (trimSpaces cs) with
  | none => none
  | some n => if n < 2 ^ 32 then some n else none

/-- The pieces between the separators. -/
def splitAtChar (sep : Char) : List Char → List (List Char)
  | [] => [[]]
  | c :: cs =>
    match splitAtChar sep cs with
    | [] => [[]]
    | p :: ps => if c == sep then [] :: p :: ps else (c :: p) :: ps

/-- The results, if every one of them is there. -/
def allOf {α : Type} : List (Option α) → Option (List α)
  | [] => some []
  | none :: _ => none
  | some x :: xs =>
    match allOf xs with
    | none => none
    | some ys => some (x :: ys)

/-- Operands separated by commas (R97). -/
def readOperands (cs : List Char) : Option (List Nat) :=
  if trimSpaces cs = [] then some [] else allOf ((splitAtChar ',' cs).map readNumber)

/-! ## Names -/

/-- The commands, in the order of R92. -/
def allInstrs : List Instr :=
  [.xor, .rxor, .hist, .relfreq, .bcoef, .score, .ldref, .xscore, .bestxor, .sbxor, .detect, .pad,
    .unpad, .cbcenc, .cbcdec]

/-- The lower-case mnemonic (R97). -/
def mnemonicText : Instr → List Char
  | .xor => ['x', 'o', 'r']
  | .rxor => ['r', 'x', 'o', 'r']
  | .hist => ['h', 'i', 's', 't']
  | .relfreq => ['r', 'e', 'l', 'f', 'r', 'e', 'q']
  | .bcoef => ['b', 'c', 'o', 'e', 'f']
  | .score => ['s', 'c', 'o', 'r', 'e']
  | .ldref => ['l', 'd', 'r', 'e', 'f']
  | .xscore => ['x', 's', 'c', 'o', 'r', 'e']
  | .bestxor => ['b', 'e', 's', 't', 'x', 'o', 'r']
  | .sbxor => ['s', 'b', 'x', 'o', 'r']
  | .detect => ['d', 'e', 't', 'e', 'c', 't']
  | .pad => ['p', 'a', 'd']
  | .unpad => ['u', 'n', 'p', 'a', 'd']
  | .cbcenc => ['c', 'b', 'c', 'e', 'n', 'c']
  | .cbcdec => ['c', 'b', 'c', 'd', 'e', 'c']

/-- The command of a mnemonic. -/
def readMnemonic (w : List Char) : Option Instr := allInstrs.find? (fun i => mnemonicText i == w)

/-- The register names of R21. -/
def readReg (w : List Char) : Option Reg :=
  match w with
  | ['I', 'D'] => some .id
  | ['C', 'F', 'G'] => some .cfg
  | ['C', 'T', 'R', 'L'] => some .ctrl
  | ['S', 'T', 'A', 'T', 'U', 'S'] => some .status
  | ['I', 'N', 'T', 'E', 'N'] => some .inten
  | ['C', 'M', 'D'] => some .cmd
  | ['B', 'L', 'K', 'S', 'Z'] => some .blksz
  | ['A', 'R', 'G', d] =>
    match readDigits 8 0 [d] with
    | none => none
    | some i => some (.arg (Fin.ofNat 8 i))
  | ['R', 'E', 'S', '_', 'L', 'E', 'N'] => some .resLen
  | ['R', 'E', 'S', '_', 'K', 'E', 'Y'] => some .resKey
  | ['R', 'E', 'S', '_', 'I', 'D', 'X'] => some .resIdx
  | ['R', 'E', 'S', '_', 'S', 'C', 'O', 'R', 'E', '_', 'L', 'O'] => some .resScoreLo
  | ['R', 'E', 'S', '_', 'S', 'C', 'O', 'R', 'E', '_', 'H', 'I'] => some .resScoreHi
  | ['R', 'E', 'F', '_', 'V', 'A', 'L', 'I', 'D', '_', 'R', 'E', 'G'] => some .refValid
  | ['B', 'U', 'F', '_', 'S', 'I', 'Z', 'E', '_', 'R', 'E', 'G'] => some .bufSize
  | _ => none

/-! ## Byte lists -/

/-- A byte written as two hexadecimal digits. -/
def readHexByte : List Char → Option Byte
  | [a, b] =>
    match readDigits 16 0 [a, b] with
    | none => none
    | some n => some (BitVec.ofNat 8 n)
  | _ => none

/-- A character of a quoted text: an ASCII character, as its byte. -/
def readTextByte (c : Char) : Option Byte :=
  if c.toNat < 0x80 ∧ c ≠ '"' then some (BitVec.ofNat 8 c.toNat) else none

/-- The bytes after the comma of `bytes a, …` (R98): a quoted text, or bytes separated by spaces. -/
def readBytes (cs : List Char) : Option (List Byte) :=
  match trimSpaces cs with
  | '"' :: rest =>
    match rest.reverse with
    | '"' :: body => allOf (body.reverse.map readTextByte)
    | _ => none
  | ws => allOf (((splitAtChar ' ' ws).filter (fun w => !w.isEmpty)).map readHexByte)

/-- `bytes a, …` (R98). -/
def readBytesStmt (cs : List Char) : Option AsmStmt :=
  match cs.span (fun c => c != ',') with
  | (a, _ :: rest) =>
    match readNumber a, readBytes rest with
    | some n, some bs => some (.bytes n bs)
    | _, _ => none
  | (_, []) => none

/-! ## Statements -/

/-- The pseudo-instructions whose operands are numbers (R98). -/
def readPseudo (w : List Char) (vs : List Nat) : Option AsmStmt :=
  match w, vs with
  | ['w', 'a', 'i', 't'], [] => some .wait
  | ['s', 'e', 't', 'b', 'l', 'k'], [n] => some (.setblk n)
  | ['s', 'e', 't', 's', 'y', 'm'], [m] => some (.setsym m)
  | ['c', 'l', 'r', 'd', 'o', 'n', 'e'], [] => some .clrdone
  | ['s', 'r', 's', 't'], [] => some .srst
  | ['i', 'e', 'n'], [] => some .ien
  | ['i', 'd', 'i', 's'], [] => some .idis
  | ['s', 'b'], [a, v] => some (.sb a v)
  | ['s', 'w'], [a, v] => some (.sw a v)
  | ['f', 'i', 'l', 'l'], [a, n, v] => some (.fill a n v)
  | ['w', 'r', 'e', 'g'], [off, v] => some (.wreg off v)
  | _, _ => none

/-- A statement whose operands are numbers: a command statement (R97) or a pseudo-instruction. -/
def readNumeric (w : List Char) (vs : List Nat) : Option AsmStmt :=
  match readMnemonic w with
  | some i => some (.command i vs)
  | none => readPseudo w vs

/-- One line of a host program (R97, R98); `none` is an assembly error. -/
def readStmt (line : List Char) : Option AsmStmt :=
  match (trimSpaces line).span (fun c => !isSpace c) with
  | (w, rest) =>
    if w = ['b', 'y', 't', 'e', 's'] then readBytesStmt rest
    else if w = ['r', 'd'] then
      match readReg (trimSpaces rest) with
      | some r => some (.rd r)
      | none => none
    else
      match readOperands rest with
      | some vs => readNumeric w vs
      | none => none

/-- A host program: its lines that are not blank, in order. -/
def readProgram (text : List Char) : Option (List AsmStmt) :=
  allOf (((splitAtChar '\n' text).filter (fun l => !(trimSpaces l).isEmpty)).map readStmt)

end Sys2Proof.Machine
end

