-- ==== Sys2Proof/Tests/Slice0.lean ====
section
/-! SUPPORT. The tests: well-formedness, decoding of words written out from R92, single steps with the
values of spec/95_test_vectors.md or worked by hand, and a witness for the hypotheses of each
statement. -/

namespace Sys2Proof.Tests

open Sys2Proof.Machine

-- One theorem at a time: the kernel's evaluations need no threads of their own.
set_option Elab.async false

/-! ## Well-formedness -/

/-- R97: XOR takes five operands, not four. -/
theorem test_wf_too_few_operands : operandsWellFormed .xor [0, 1, 2, 3] = false := by decide

theorem test_wf_too_many_operands : operandsWellFormed .ldref [0, 1] = false := by decide

/-- R97: an operand is below 2^32. -/
theorem test_wf_operand_range : operandsWellFormed .score [0, 4294967296] = false := by decide

theorem test_wf_operands : operandsWellFormed .score [0, 4294967295] = true := by decide

/-- R8: BUF_SIZE is a multiple of 4 in 4096..2^30. -/
theorem test_wf_bufSize_multiple : bufSizeWellFormed 4098 = false := by decide

theorem test_wf_bufSize_low : bufSizeWellFormed 4092 = false := by decide

theorem test_wf_bufSize_high : bufSizeWellFormed 1073741828 = false := by decide

theorem test_wf_bufSize : bufSizeWellFormed 1073741824 = true := by decide

/-! ## Decoding: the words of R92 -/

theorem test_decode_xor : decode 0b00000000000000000000000000000001 = .ok .xor := by decide
theorem test_decode_rxor : decode 0b00000000000000000000000000000010 = .ok .rxor := by decide
theorem test_decode_hist : decode 0b00000000000000000000000000010000 = .ok .hist := by decide
theorem test_decode_relfreq : decode 0b00000000000000000000000000010001 = .ok .relfreq := by decide
theorem test_decode_bcoef : decode 0b00000000000000000000000000010010 = .ok .bcoef := by decide
theorem test_decode_score : decode 0b00000000000000000000000000010011 = .ok .score := by decide
theorem test_decode_ldref : decode 0b00000000000000000000000000010100 = .ok .ldref := by decide
theorem test_decode_xscore : decode 0b00000000000000000000000000100000 = .ok .xscore := by decide
theorem test_decode_bestxor : decode 0b00000000000000000000000000100001 = .ok .bestxor := by decide
theorem test_decode_sbxor : decode 0b00000000000000000000000000100010 = .ok .sbxor := by decide
theorem test_decode_detect : decode 0b00000000000000000000000000100011 = .ok .detect := by decide
theorem test_decode_pad : decode 0b00000000000000000000000000110000 = .ok .pad := by decide
theorem test_decode_unpad : decode 0b00000000000000000000000000110001 = .ok .unpad := by decide
theorem test_decode_cbcenc : decode 0b00000000000000000000000001000000 = .ok .cbcenc := by decide
theorem test_decode_cbcdec : decode 0b00000000000000000000000001000001 = .ok .cbcdec := by decide

/-- R95: the reset value of CMD is illegal. -/
theorem test_decode_zero : decode 0x00000000 = .error .unlistedOpcode := by decide

/-- R95: a reserved bit makes a listed opcode illegal. -/
theorem test_decode_reserved : decode 0x80000001 = .error .reservedBitsSet := by decide

/-! ## Small states -/

/-- Bytes of the scratchpad from an address on, as cells. -/
def cellsAt (a : Nat) (bs : List Nat) : List Host.Cell :=
  cellsFrom a (bs.map (fun b => BitVec.ofNat 8 b))

/-- A REF with the weight 0.25 at the bins ' ', 'a', 'e' and 't' (R127's example). -/
def smallRef : Vector F64 256 :=
  (((Vector.replicate 256 0).set 0x20 0x3FD0000000000000 |>.set 0x61 0x3FD0000000000000).set 0x65
    0x3FD0000000000000).set 0x74 0x3FD0000000000000

/-- A running engine with a command's snapshot: byte mode, the given block size and operands. -/
def running (i : Instr) (args : List Nat) (blksz : Nat) (cells : List Host.Cell) : State :=
  { State.reset with
    bufSize := 4096, engine := .run, sp := { cells := cells }, ref := smallRef,
    snap :=
      { cmd := encode i, args := Vector.ofFn (fun j => BitVec.ofNat 32 (args.getD j.val 0)),
        blksz := BitVec.ofNat 8 blksz, sym := true, ref := smallRef, refValid := true } }

/-- The state of an outcome; a fault or a refusal leaves the given state. -/
def stateOf (o : Host.Outcome State Fault Refusal) (s : State) : State :=
  match o with
  | .next t => t
  | .fault _ => s
  | .refused _ => s

/-- The outcome is a next state. -/
def isNext : Host.Outcome State Fault Refusal → Bool
  | .next _ => true
  | .fault _ => false
  | .refused _ => false

theorem next_stateOf (o : Host.Outcome State Fault Refusal) (s : State) (h : isNext o = true) :
    o = .next (stateOf o s) := by
  cases o with
  | next t => rfl
  | fault f => cases h
  | refused r => cases h

/-- The state after one command step. -/
def after (i : Instr) (s : State) : State := stateOf (exec i s) s

/-! ## Single steps -/

/-- The example of R110: 1c 01 11 and 68 69 74 give 74 68 65. -/
def xorState : State :=
  running .xor [0, 3, 16, 3, 32] 16 (cellsAt 0 [0x1c, 0x01, 0x11] ++ cellsAt 16 [0x68, 0x69, 0x74])

theorem test_xor_bytes :
    (after .xor xorState).memRead 32 3 = [0x74, 0x68, 0x65] := by decide +kernel

/-- R110: dst equal to a source region is E_OVERLAP. -/
theorem test_xor_overlap :
    (after .xor (running .xor [0, 3, 16, 3, 2] 16 [])).errCode = 0x04 := by decide +kernel

/-- The example of R111: the key ICE on "Burn". -/
def rxorState : State :=
  running .rxor [0, 3, 16, 4, 32] 16
    (cellsAt 0 [0x49, 0x43, 0x45] ++ cellsAt 16 [0x42, 0x75, 0x72, 0x6e])

theorem test_rxor_bytes :
    (after .rxor rxorState).memRead 32 4 = [0x0b, 0x36, 0x37, 0x27] := by decide +kernel

/-- R111: an empty key is an error before any range check. -/
theorem test_rxor_empty_key :
    (after .rxor (running .rxor [4294967295, 0, 0, 0, 0] 16 [])).errCode = 0x0B := by
  decide +kernel

/-- The text "Hello" of R124's example, at address 0. -/
def helloCells : List Host.Cell := cellsAt 0 [0x48, 0x65, 0x6c, 0x6c, 0x6f]

def histState : State := running .hist [0, 5, 64] 16 helloCells

/-- R124: 'l' occurs twice in "Hello". -/
theorem test_hist_count : (after .hist histState).u32At (64 + 4 * 0x6c) = 2 := by decide +kernel

/-- R121: 'H' is counted in the bin of 'h'. -/
theorem test_hist_folds : (after .hist histState).u32At (64 + 4 * 0x68) = 1 := by decide +kernel

def relfreqState : State := running .relfreq [0, 2, 64] 16 (cellsAt 0 [0x65, 0x74])

/-- The example of R125: each of the two symbols of "et" has the frequency 0.5. -/
theorem test_relfreq_half :
    (after .relfreq relfreqState).f64At (64 + 8 * 0x65) = 0x3FE0000000000000 := by decide +kernel

theorem test_relfreq_empty :
    (after .relfreq (running .relfreq [0, 0, 64] 16 [])).errCode = 0x06 := by decide +kernel

/-- R126: the two terms sqrt(0.25 * 0.5) of the example. -/
theorem test_bcoef_terms :
    f64Add (f64Sqrt (f64Mul 0x3FD0000000000000 0x3FE0000000000000))
      (f64Sqrt (f64Mul 0x3FD0000000000000 0x3FE0000000000000)) = 0x3FE6A09E667F3BCD := by
  decide +kernel

/-- R126: a table that ends above BUF_SIZE is E_RANGE. -/
theorem test_bcoef_range :
    (after .bcoef (running .bcoef [0, 2049] 16 [])).errCode = 0x03 := by decide +kernel

def scoreState : State := running .score [0, 3] 16 (cellsAt 0 [0x61, 0x20, 0x65])

theorem test_score_total : (after .score scoreState).resLen = 3 := by decide +kernel

/-- R127: with no reference table SCORE is E_REF_UNLOADED. -/
theorem test_score_unloaded :
    (after .score { scoreState with snap := { scoreState.snap with refValid := false } }).errCode
      = 0x0D := by decide +kernel

/-- A weight table whose first entry is -0.0. -/
def badTableState : State :=
  running .ldref [8] 16 (cellsAt 8 [0, 0, 0, 0, 0, 0, 0, 0x80])

/-- F1: -0.0 is E_BAD_WEIGHT. -/
theorem test_ldref_minus_zero : (after .ldref badTableState).errCode = 0x0E := by decide +kernel

def xscoreState : State :=
  running .xscore [0, 1, 16, 3, 32] 16 (cellsAt 0 [0x58] ++ cellsAt 16 [0x39, 0x78, 0x3d])

/-- R151: the key 'X' turns 39 78 3d into "a e". -/
theorem test_xscore_plain :
    (after .xscore xscoreState).memRead 32 3 = [0x61, 0x20, 0x65] := by decide +kernel

/-- R151: an empty ciphertext is found after an empty key. -/
theorem test_xscore_empty :
    (after .xscore (running .xscore [0, 1, 16, 0, 32] 16 [])).errCode = 0x06 := by decide +kernel

/-- The keys "A" at 0 and "X" at 1, the table at 32, the ciphertext 39 78 3d at 16. -/
def bestxorState : State :=
  running .bestxor [32, 2, 16, 3, 64] 16
    (cellsAt 0 [0x41, 0x58] ++ cellsAt 16 [0x39, 0x78, 0x3d]
      ++ cellsAt 32 [0, 0, 0, 0, 1, 0, 0, 0, 1, 0, 0, 0, 1, 0, 0, 0])

/-- R152: RES_KEY is not written. -/
theorem test_bestxor_key : (after .bestxor bestxorState).resKey = 0 := by decide +kernel

/-- R152: a key entry of length 0 is E_EMPTY_KEY. -/
theorem test_bestxor_empty_key :
    (after .bestxor (running .bestxor [32, 1, 16, 3, 64] 16
      (cellsAt 32 [0, 0, 0, 0, 0, 0, 0, 0]))).errCode = 0x0B := by decide +kernel

/-- R150: of equal scores the first wins. -/
theorem test_first_maximum :
    firstMax [0x3FE0000000000000, 0x3FF0000000000000, 0x3FF0000000000000] = 1 := by decide +kernel

def sbxorState : State := running .sbxor [0, 1, 16] 16 (cellsAt 0 [0x00])

/-- R153: the output is as long as the ciphertext. -/
theorem test_sbxor_len : (after .sbxor sbxorState).resLen = 1 := by decide +kernel

/-- R153: dst overlaps the ciphertext. -/
theorem test_sbxor_overlap :
    (after .sbxor (running .sbxor [0, 2, 1] 16 [])).errCode = 0x04 := by decide +kernel

/-- Two lines of one and two bytes at 0, the table at 32, dst at 64. -/
def detectState : State :=
  running .detect [32, 2, 64] 16
    (cellsAt 0 [0x10, 0x20]
      ++ cellsAt 32 [0, 0, 0, 0, 1, 0, 0, 0, 0, 0, 0, 0, 2, 0, 0, 0])

/-- R154: dst is sized for the longest line. -/
theorem test_detect_output : outputRegion .detect detectState = some { addr := 64, len := 2 } := by
  decide +kernel

/-- R154: a line of length 0 is EmptyInput. -/
theorem test_detect_empty_line :
    (after .detect (running .detect [32, 1, 64] 16
      (cellsAt 32 [0, 0, 0, 0, 0, 0, 0, 0]))).errCode = 0x06 := by decide +kernel

/-- The example of R170: pad("HELLO", 4). -/
def padState : State := running .pad [0, 5, 16] 4 (cellsAt 0 [0x48, 0x45, 0x4c, 0x4c, 0x4f])

theorem test_pad_bytes :
    (after .pad padState).memRead 16 8 = [0x48, 0x45, 0x4c, 0x4c, 0x4f, 3, 3, 3] := by
  decide +kernel

theorem test_pad_zero_block :
    (after .pad (running .pad [0, 0, 16] 0 [])).errCode = 0x02 := by decide +kernel

/-- R171: "HELLO" 01 02 03 truncates by 3, unvalidated. -/
def unpadState : State :=
  running .unpad [0, 8, 16] 4 (cellsAt 0 [0x48, 0x45, 0x4c, 0x4c, 0x4f, 1, 2, 3])

theorem test_unpad_bytes :
    (after .unpad unpadState).memRead 16 5 = [0x48, 0x45, 0x4c, 0x4c, 0x4f] := by decide +kernel

/-- R171: a last byte above the length is E_UNPAD_RANGE. -/
theorem test_unpad_range :
    (after .unpad (running .unpad [0, 1, 16] 4 (cellsAt 0 [2]))).errCode = 0x0C := by
  decide +kernel

/-- Block size 2: text 05 at 0, key at 8, IV 11 22 at 16, dst at 32. -/
def cbcencState : State :=
  running .cbcenc [0, 1, 8, 1, 16, 2, 32] 2
    (cellsAt 0 [0x05] ++ cellsAt 8 [0xAB] ++ cellsAt 16 [0x11, 0x22])

/-- R184: the first request is the padded block 05 01 XOR the IV. -/
theorem test_cbcenc_request :
    (after .cbcenc cbcencState).pend
      = some { dir := .enc, key := [0xAB], block := [0x14, 0x23] } := by decide +kernel

/-- R184: a wrong IV length is found before any range check. -/
theorem test_cbcenc_iv :
    (after .cbcenc (running .cbcenc [0, 9999, 0, 0, 0, 3, 0] 2 [])).errCode = 0x08 := by
  decide +kernel

/-- Block size 2: ciphertext 30 41 at 0, key at 8, IV 11 22 at 16, dst at 32. -/
def cbcdecState : State :=
  running .cbcdec [0, 2, 8, 1, 16, 2, 32] 2
    (cellsAt 0 [0x30, 0x41] ++ cellsAt 8 [0xAB] ++ cellsAt 16 [0x11, 0x22])

/-- R185: the request is the ciphertext block itself. -/
theorem test_cbcdec_request :
    (after .cbcdec cbcdecState).pend
      = some { dir := .dec, key := [0xAB], block := [0x30, 0x41] } := by decide +kernel

/-- The locals of a CBC command at its only block. -/
def oneBlock : CbcLocals :=
  { data := [0x30, 0x41], key := [0xAB], prev := [0x11, 0x22], block := 0 }

/-- The locals of a CBC command at the first of two blocks. -/
def twoBlocks : CbcLocals :=
  { data := [0x30, 0x41, 0x52, 0x63], key := [0xAB], prev := [0x11, 0x22], block := 0 }

/-- A CBC command whose oracle has answered. -/
def answered (i : Instr) (l : CbcLocals) (a : EcbAnswer) : State :=
  { running i [0, 2, 8, 1, 16, 2, 32] 2 [] with progress := .answered l a }

/-- R185: the answer 14 23 XOR the IV is 05 01, so the padding is one byte. -/
theorem test_cbcdec_end :
    (after .cbcdec (answered .cbcdec oneBlock (.ok [0x14, 0x23]))).resLen = 1 := by decide +kernel

/-! ## Host port -/

/-- An idle machine. -/
def idle : State := { State.reset with bufSize := 4096, done := true, err := true, errCode := 3 }

/-- V-REG: ID reads 0x4D584331. -/
theorem test_read_id : (hostRead 0 .word idle).hostResp = some (.value 0x4D584331) := by
  decide +kernel

/-- R65: two byte writes read back as one little-endian halfword. -/
theorem test_host_halfword :
    (hostRead 0x10000 .half (hostWrite 0x10001 .byte 0x22 (hostWrite 0x10000 .byte 0x11 idle))).hostResp
      = some (.value 0x2211) := by decide +kernel

/-- R63: a byte access to a register is BUSERR. -/
theorem test_register_byte : (hostRead 0x00C .byte idle).hostResp = some .busErr := by
  decide +kernel

/-- R24: SRST wins over START. -/
theorem test_srst_wins : (hostWrite 0x008 .word 3 idle).engine = .idle := by decide +kernel

/-- R25: STATUS after an E_RANGE is DONE, ERR and ERRCODE 3. -/
theorem test_status_word : idle.statusWord = 0x00000306 := by decide +kernel

/-- The engine runs what withFetchWord places. -/
theorem test_withFetchWord :
    (stateOf (step (State.reset.withFetchWord 32 0x00000013)) State.reset).errCode = 0x06 := by
  decide +kernel

/-! ## Host programs -/

/-- The example line of R97. -/
theorem test_asm_command :
    readStmt "cbcenc 0x000, 5, 0x100, 4, 0x200, 4, 0x300".toList
      = some (.command .cbcenc [0x000, 5, 0x100, 4, 0x200, 4, 0x300]) := by decide +kernel

/-- A line of program P1 of spec/95_test_vectors.md. -/
theorem test_asm_bytes :
    readStmt "bytes 0x000, \"HELLO\"".toList = some (.bytes 0 [0x48, 0x45, 0x4c, 0x4c, 0x4f]) := by
  decide +kernel

/-- R97: an operand too few is an assembly error. -/
theorem test_asm_operand_count : (AsmStmt.command .score [7]).expand = none := by decide

/-- R98: `fill` with a value above a byte performs the transaction of `sb` with that value. -/
theorem test_asm_fill :
    (AsmStmt.fill 0x40 1 0x1FF).expand = (AsmStmt.sb 0x40 0x1FF).expand := by decide

/-- R98: `wreg` at an offset that is no register offset is an assembly error. -/
theorem test_asm_wreg :
    (AsmStmt.wreg 0x00E 1).expand = none ∧ (AsmStmt.wreg 0x1000 1).expand = none ∧
      (AsmStmt.wreg 0xFFC 1).expand = some [.hostWrite 0xFFC .word 1] := by decide

/-! ## Witnesses of the statements' hypotheses: commands -/

theorem witness_IllegalCommandEndsWithError :
    (running .xor [] 16 []).engine = .run ∧
      ∀ i : Instr, { (running .xor [] 16 []).snap with cmd := 0 }.cmd ≠ encode i := by
  refine ⟨rfl, fun i => ?_⟩
  cases i <;> decide

theorem witness_StepRunsTheDecodedCommand :
    xorState.engine = .run ∧ xorState.fetch = .ok .xor ∧ Instr.xor.wellFormed = true ∧
      xorState.inputs = [] ∧
      { xorState with inputs := [.engine, .hostWait] }.inputs = [.engine, .hostWait] := by
  refine ⟨rfl, ?_, rfl, rfl, rfl⟩
  decide +kernel

theorem witness_XorWritesTheExclusiveOr :
    let s := xorState
    s.arg 1 = s.arg 3 ∧
      (s.argRegion 0 1).Fits s ∧ (s.argRegion 2 3).Fits s ∧ (s.argRegion 4 1).Fits s ∧
      (s.argRegion 4 1).Apart (s.argRegion 0 1) ∧ (s.argRegion 4 1).Apart (s.argRegion 2 3) := by
  simp only [Region.Fits, Region.Apart]
  decide +kernel

theorem witness_RxorWritesTheRepeatingXor :
    let s := rxorState
    0 < s.arg 1 ∧
      (s.argRegion 0 1).Fits s ∧ (s.argRegion 2 3).Fits s ∧ (s.argRegion 4 3).Fits s ∧
      (s.argRegion 4 3).Apart (s.argRegion 0 1) ∧ (s.argRegion 4 3).Apart (s.argRegion 2 3) := by
  simp only [Region.Fits, Region.Apart]
  decide +kernel

theorem witness_RxorUndoesItself : ([0x49, 0x43] : List Byte) ≠ [] := by decide

theorem witness_HistWritesTheCounts :
    let s := histState
    (s.argRegion 0 1).Fits s ∧ (s.argSized 2 1028).Fits s ∧
      (s.argSized 2 1028).Apart (s.argRegion 0 1) := by
  simp only [Region.Fits, Region.Apart]
  decide +kernel

theorem witness_RelfreqWritesTheFrequencies :
    let s := relfreqState
    0 < s.arg 1 ∧ (s.argRegion 0 1).Fits s ∧ (s.argSized 2 2056).Fits s ∧
      (s.argSized 2 2056).Apart (s.argRegion 0 1) := by
  simp only [Region.Fits, Region.Apart]
  decide +kernel

theorem witness_FrequencyOneExactlyForOneBin :
    ([0x41, 0x61] : List Byte) ≠ [] ∧ ([0x41, 0x61] : List Byte).length < 2 ^ 32 := by decide

/-- A byte of a run that a write has put there. -/
theorem byteAt_memWrite_map (s : State) (a n x : Nat) (f : Nat → Byte) (ha : a ≤ x)
    (hx : x < a + n) : (s.memWrite a ((List.range n).map f)).byteAt x = f (x - a) := by
  rw [State.byteAt_memWrite, if_pos ⟨ha, by simpa using hx⟩]
  have h : x - a < n := by omega
  simp [List.getD_eq_getElem?_getD, h]

/-- A running command over two tables of zeros, at 0 and at 2048. -/
def zeroTables (i : Instr) (args : List Nat) : State :=
  (running i args 16 []).memWrite 0 ((List.range 4096).map (fun _ => 0))

theorem zeroTables_entry (i : Instr) (args : List Nat) (a : Nat) (h : a + 8 ≤ 4096) :
    (zeroTables i args).f64At a = 0 := by
  have hb : (zeroTables i args).memRead a 8 = List.replicate 8 0 := by
    refine List.eq_replicate_iff.mpr ⟨by simp, fun b hb => ?_⟩
    simp only [State.memRead, List.mem_map, List.mem_range] at hb
    obtain ⟨k, hk, rfl⟩ := hb
    exact byteAt_memWrite_map _ _ _ _ (fun _ => 0) (by omega) (by omega)
  rw [State.f64At, hb]
  decide

theorem witness_BcoefScoresTheTables :
    let s := zeroTables .bcoef [0, 2048]
    (s.argSized 0 2048).Fits s ∧ (s.argSized 1 2048).Fits s ∧
      (∀ v, v < 256 → weightOk (s.f64At (s.arg 0 + 8 * v)) = true) ∧
      (∀ v, v < 256 → weightOk (s.f64At (s.arg 1 + 8 * v)) = true) := by
  intro s
  have h0 : s.arg 0 = 0 := by decide +kernel
  have h1 : s.arg 1 = 2048 := by decide +kernel
  have hb : s.bufSize = 4096 := rfl
  refine ⟨?_, ?_, fun v hv => ?_, fun v hv => ?_⟩
  · simp only [Region.Fits, State.argSized, h0, hb]; decide
  · simp only [Region.Fits, State.argSized, h1, hb]; decide
  · rw [h0, zeroTables_entry _ _ _ (by omega)]; decide
  · rw [h1, zeroTables_entry _ _ _ (by omega)]; decide

theorem witness_ScoreScoresTheText :
    let s := scoreState
    0 < s.arg 1 ∧ s.snap.refValid = true ∧ (s.argRegion 0 1).Fits s := by
  simp only [Region.Fits]
  decide +kernel

theorem zeroTables_ldref_legal :
    let s := zeroTables .ldref [2048]
    (s.argSized 0 2048).Fits s ∧
      (∀ v, v < 256 → weightOk (s.f64At (s.arg 0 + 8 * v)) = true) := by
  intro s
  have h0 : s.arg 0 = 2048 := by decide +kernel
  have hb : s.bufSize = 4096 := rfl
  refine ⟨?_, fun v hv => ?_⟩
  · simp only [Region.Fits, State.argSized, h0, hb]; decide
  · rw [h0, zeroTables_entry _ _ _ (by omega)]; decide

theorem witness_LdrefLoadsTheTable :
    let s := zeroTables .ldref [2048]
    (s.argSized 0 2048).Fits s ∧
      (∀ v, v < 256 → weightOk (s.f64At (s.arg 0 + 8 * v)) = true) := zeroTables_ldref_legal

/-- A weight table at 8 with the given last entry. -/
def lastWeight (bs : List Nat) : State := running .ldref [8] 16 (cellsAt 2048 bs)

theorem witness_LdrefRejectsBadWeights_sign :
    let s := badTableState
    (s.argSized 0 2048).Fits s ∧ 0 < 256 ∧ f64Sign (s.f64At (s.arg 0 + 8 * 0)) = true := by
  simp only [Region.Fits]
  decide +kernel

theorem witness_LdrefRejectsBadWeights_inf :
    let s := lastWeight [0, 0, 0, 0, 0, 0, 0xF0, 0x7F]
    (s.argSized 0 2048).Fits s ∧ 255 < 256 ∧ f64IsInf (s.f64At (s.arg 0 + 8 * 255)) = true := by
  simp only [Region.Fits]
  decide +kernel

theorem witness_LdrefRejectsBadWeights_nan :
    let s := lastWeight [1, 0, 0, 0, 0, 0, 0xF0, 0x7F]
    (s.argSized 0 2048).Fits s ∧ 255 < 256 ∧ f64IsNaN (s.f64At (s.arg 0 + 8 * 255)) = true := by
  simp only [Region.Fits]
  decide +kernel

theorem witness_SymbolModesAgreeOnPlainAscii :
    (∀ b ∈ ([0x7F, 0x0D] : List Byte), b.toNat < 0x80) ∧
      ∀ i, ¬(([0x7F, 0x0D] : List Byte)[i]? = some 0x0D#8 ∧
        ([0x7F, 0x0D] : List Byte)[i + 1]? = some 0x0A#8) := by
  refine ⟨by decide, fun i => ?_⟩
  rcases i with _ | _ | i <;> simp

theorem witness_CoefficientIsNeverNaN :
    ∀ v : Nat, v < 256 → weightOk ((fun _ => 0x7FEFFFFFFFFFFFFF : Nat → F64) v) = true := by
  intro v _
  exact (by decide : weightOk 0x7FEFFFFFFFFFFFFF = true)

/-- The first clause: three halves of the unit are a tie, which goes to the even 2. -/
theorem witness_RoundingIsNearestEven_quotient :
    0 < 2 ∧ roundRatio 3 2 < infMag ∧ 1 < infMag ∧ 1 ≠ roundRatio 3 2 ∧
      ((3 : Int) - 2 * f64Scaled (f64Pack false (roundRatio 3 2))).natAbs
        = ((3 : Int) - 2 * f64Scaled (f64Pack false 1)).natAbs := by decide +kernel

/-- The bound of overflow, from both sides. -/
theorem witness_RoundingIsNearestEven_overflow :
    1 * ((2 ^ 54 - 1) * 2 ^ 2044) ≤ (2 ^ 54 - 1) * 2 ^ 2044 ∧
      roundRatio ((2 ^ 54 - 1) * 2 ^ 2044) 1 = infMag ∧
      roundRatio ((2 ^ 54 - 1) * 2 ^ 2044 - 1) 1 = infMag - 1 := by decide +kernel

/-- The second clause: the root of (2^53 + 1)^2 is a tie, and the next magnitude is as near. -/
theorem witness_RoundingIsNearestEven_root :
    roundSqrt ((2 ^ 53 + 1) ^ 2) < infMag ∧ roundSqrt ((2 ^ 53 + 1) ^ 2) + 1 < infMag ∧
      4 * (2 ^ 53 + 1) ^ 2 = (f64Scaled (f64Pack false (roundSqrt ((2 ^ 53 + 1) ^ 2)))
        + f64Scaled (f64Pack false (roundSqrt ((2 ^ 53 + 1) ^ 2) + 1))) ^ 2 := by decide +kernel

/-- The third clause, at the least and the greatest positive finite value. -/
theorem witness_RoundingIsNearestEven_sqrt :
    (f64Sign 1 = false ∧ 0 < f64Mag 1 ∧ f64Mag 1 < infMag) ∧
      f64Sign 0x7FEFFFFFFFFFFFFF = false ∧ 0 < f64Mag 0x7FEFFFFFFFFFFFFF ∧
      f64Mag 0x7FEFFFFFFFFFFFFF < infMag := by decide +kernel

/-- The fourth and fifth clauses: zero and the greatest finite value, and the greatest integer. -/
theorem witness_RoundingIsNearestEven_operations :
    (f64Sign 0 = false ∧ f64Mag 0 < infMag) ∧
      (f64Sign 0x7FEFFFFFFFFFFFFF = false ∧ 0 < f64Mag 0x7FEFFFFFFFFFFFFF ∧
        f64Mag 0x7FEFFFFFFFFFFFFF < infMag) ∧
      4294967295 < 2 ^ 32 := by decide +kernel

/-- R15: 0.5 is greater than 0.25, and +0.0 is not greater than -0.0. -/
theorem test_gt :
    f64Gt 0x3FE0000000000000 0x3FD0000000000000 = true ∧ f64Gt 0 0x8000000000000000 = false := by
  decide

/-- The order's clauses: two zeros of either sign, and an infinity of either sign. -/
theorem witness_WinnerIsTheFirstMaximum_order :
    (f64Mag 0 < infMag ∧ f64Mag 0x8000000000000000 < infMag) ∧
      f64IsInf 0x7FF0000000000000 = true ∧ f64IsInf 0xFFF0000000000000 = true ∧
      f64IsNaN 0x7FF0000000000000 = false := by decide +kernel

theorem witness_WinnerIsTheFirstMaximum :
    ([0x3FE0000000000000, 0x7FF0000000000000] : List F64) ≠ [] ∧
      ∀ x ∈ ([0x3FE0000000000000, 0x7FF0000000000000] : List F64), f64IsNaN x = false := by
  refine ⟨List.cons_ne_nil _ _, fun x hx => ?_⟩
  simp only [List.mem_cons, List.not_mem_nil, or_false] at hx
  rcases hx with rfl | rfl <;> decide

theorem witness_XscoreScoresTheCandidate :
    let s := xscoreState
    0 < s.arg 1 ∧ 0 < s.arg 3 ∧ s.snap.refValid = true ∧
      (s.argRegion 0 1).Fits s ∧ (s.argRegion 2 3).Fits s ∧ (s.argRegion 4 3).Fits s ∧
      (s.argRegion 4 3).Apart (s.argRegion 0 1) ∧ (s.argRegion 4 3).Apart (s.argRegion 2 3) := by
  simp only [Region.Fits, Region.Apart]
  decide +kernel

theorem witness_BestxorFindsTheBestEntry :
    let s := bestxorState
    0 < s.arg 1 ∧ 0 < s.arg 3 ∧ s.snap.refValid = true ∧
      s.descTable.Fits s ∧ (s.argRegion 2 3).Fits s ∧ (s.argRegion 4 3).Fits s ∧
      (∀ j, j < s.arg 1 → (s.descEntry j).Fits s ∧ 0 < (s.descEntry j).len ∧
        (s.argRegion 4 3).Apart (s.descEntry j)) ∧
      (s.argRegion 4 3).Apart s.descTable ∧ (s.argRegion 4 3).Apart (s.argRegion 2 3) := by
  simp only [Region.Fits, Region.Apart]
  decide +kernel

theorem witness_SbxorFindsTheBestByte :
    let s := sbxorState
    0 < s.arg 1 ∧ s.snap.refValid = true ∧
      (s.argRegion 0 1).Fits s ∧ (s.argRegion 2 1).Fits s ∧
      (s.argRegion 2 1).Apart (s.argRegion 0 1) := by
  simp only [Region.Fits, Region.Apart]
  decide +kernel

theorem witness_DetectFindsTheBestLine :
    let s := detectState
    0 < s.arg 1 ∧ s.snap.refValid = true ∧ s.descTable.Fits s ∧
      (∀ j, j < s.arg 1 → (s.descEntry j).Fits s ∧ 0 < (s.descEntry j).len ∧
        (s.descEntry j).len ≤ maxLen s.descEntries ∧
        (s.argSized 2 (maxLen s.descEntries)).Apart (s.descEntry j)) ∧
      (s.argSized 2 (maxLen s.descEntries)).Fits s ∧
      (s.argSized 2 (maxLen s.descEntries)).Apart s.descTable := by
  simp only [Region.Fits, Region.Apart]
  decide +kernel

/-- The 256 one-byte keys at 0, their descriptor table at 256, a ciphertext byte 0 at 2304. -/
def allKeysByte (x : Nat) : Byte :=
  if x < 256 then BitVec.ofNat 8 x
  else if x < 2304 then
    (if x % 8 = 0 then BitVec.ofNat 8 ((x - 256) / 8) else if x % 8 = 4 then 1 else 0)
  else 0

def allKeys : State :=
  (running .bestxor [256, 256, 2304, 1, 2308] 16 []).memWrite 0
    ((List.range 2305).map allKeysByte)

theorem allKeys_byte (x : Nat) (h : x < 2305) : allKeys.byteAt x = allKeysByte x :=
  byteAt_memWrite_map _ 0 2305 x allKeysByte (by omega) (by omega)

theorem allKeys_entry (k : Nat) (h : k < 256) : allKeys.descEntry k = { addr := k, len := 1 } := by
  have h0 : allKeys.arg 0 = 256 := by decide +kernel
  have hread : ∀ a, a + 4 ≤ 2305 → allKeys.memRead a 4
      = [allKeysByte a, allKeysByte (a + 1), allKeysByte (a + 2), allKeysByte (a + 3)] := by
    intro a ha
    simp only [State.memRead, List.range_succ, List.range_zero, List.nil_append, List.cons_append,
      List.map_cons, List.map_nil, Nat.add_zero]
    rw [allKeys_byte a (by omega), allKeys_byte (a + 1) (by omega), allKeys_byte (a + 2) (by omega),
      allKeys_byte (a + 3) (by omega)]
  have hb : ∀ j, j < 8 → allKeysByte (256 + 8 * k + j)
      = if j = 0 then BitVec.ofNat 8 k else if j = 4 then 1 else 0 := by
    intro j hj
    simp only [allKeysByte]
    rw [if_neg (by omega), if_pos (by omega)]
    have h1 : (256 + 8 * k + j) % 8 = j := by omega
    have h2 : (256 + 8 * k + j - 256) / 8 = k := by omega
    rw [h1, h2]
  have b0 := hb 0 (by omega)
  rw [Nat.add_zero] at b0
  simp only [State.descEntry, State.u32At, h0]
  rw [hread _ (by omega), hread _ (by omega), b0, hb 1 (by omega), hb 2 (by omega),
    hb 3 (by omega), hb 4 (by omega), Nat.add_assoc _ 4 1, hb 5 (by omega), Nat.add_assoc _ 4 2,
    hb 6 (by omega), Nat.add_assoc _ 4 3, hb 7 (by omega)]
  simp [leNat, Nat.mod_eq_of_lt h]

theorem allKeys_checks : firstFailure (bestxorChecks allKeys) = none := by
  have h1 : allKeys.arg 1 = 256 := by decide +kernel
  have h2 : allKeys.arg 2 = 2304 := by decide +kernel
  have h3 : allKeys.arg 3 = 1 := by decide +kernel
  have h4 : allKeys.arg 4 = 2308 := by decide +kernel
  have ht : allKeys.descTable = { addr := 256, len := 2048 } := by decide +kernel
  have hb : allKeys.bufSize = 4096 := rfl
  have hent : ∀ r ∈ allKeys.descEntries, ∃ k, k < 256 ∧ r = { addr := k, len := 1 } := by
    intro r hr
    simp only [State.descEntries] at hr
    split at hr
    · simp only [List.mem_map, List.mem_range, h1] at hr
      obtain ⟨k, hk, rfl⟩ := hr
      exact ⟨k, hk, allKeys_entry k hk⟩
    · cases hr
  have happly : ∀ r, r = allKeys.descTable ∨ r = allKeys.argRegion 2 3 ∨ r ∈ allKeys.descEntries →
      (allKeys.argRegion 4 3).overlaps r = false := by
    intro r hr
    rw [Region.overlaps_eq_false_iff]
    simp only [State.argRegion, h3, h4]
    rcases hr with rfl | rfl | hr
    · rw [ht]; simp
    · simp only [State.argRegion, h2, h3]
      omega
    · obtain ⟨k, hk, rfl⟩ := hent r hr
      simp only
      omega
  simp only [bestxorChecks, firstFailure_append, Option.or_eq_none_iff]
  refine ⟨⟨?_, ?_⟩, ?_⟩
  · rw [firstFailure_eq_none_iff]
    intro c hc
    simp only [List.mem_cons, List.not_mem_nil, or_false] at hc
    rcases hc with rfl | rfl | rfl | rfl | rfl | rfl
    · simp [State.needPos, h1]
    · simp [State.needPos, h3]
    · rfl
    · rw [State.needRange_ok_iff, ht, hb]; decide
    · rw [State.needRange_ok_iff, hb]; simp [State.argRegion, h2, h3]
    · rw [State.needRange_ok_iff, hb]; simp [State.argRegion, h4, h3]
  · rw [firstFailure_eq_none_iff]
    intro c hc
    simp only [List.mem_flatMap, State.entryChecks, List.mem_cons, List.not_mem_nil, or_false] at hc
    obtain ⟨r, hr, rfl | rfl⟩ := hc
    · obtain ⟨k, hk, rfl⟩ := hent r hr
      rw [State.needRange_ok_iff, hb]
      simp only
      omega
    · obtain ⟨k, hk, rfl⟩ := hent r hr
      simp
  · rw [firstFailure_needDisjoint]
    intro r hr
    simp only [List.mem_cons] at hr
    exact happly r hr

theorem witness_SbxorIsBestxorOverAllBytes :
    let s := sbxorState
    let u := allKeys
    firstFailure (sbxorChecks s) = none ∧ firstFailure (bestxorChecks u) = none ∧
      u.arg 1 = 256 ∧
      (∀ k, k < 256 → u.readRegion (u.descEntry k) = [BitVec.ofNat 8 k]) ∧
      u.readRegion (u.argRegion 2 3) = s.readRegion (s.argRegion 0 1) ∧
      u.snap.sym = s.snap.sym ∧ u.snap.ref = s.snap.ref := by
  refine ⟨by decide +kernel, allKeys_checks, by decide +kernel, fun k hk => ?_, ?_, rfl, rfl⟩
  · rw [allKeys_entry k hk]
    simp [State.readRegion, State.memRead, allKeys_byte k (by omega), allKeysByte, hk]
  · have h : allKeys.argRegion 2 3 = { addr := 2304, len := 1 } := by decide +kernel
    have h' : sbxorState.readRegion (sbxorState.argRegion 0 1) = [0] := by decide +kernel
    rw [h, h']
    simp [State.readRegion, State.memRead, allKeys_byte 2304 (by omega), allKeysByte]

theorem witness_PadAppendsThePadding :
    let s := padState
    0 < s.blkLen ∧ 3 = s.blkLen - s.arg 1 % s.blkLen ∧
      (s.argRegion 0 1).Fits s ∧ (s.argSized 2 (s.arg 1 + 3)).Fits s ∧
      (s.argSized 2 (s.arg 1 + 3)).Apart (s.argRegion 0 1) := by
  simp only [Region.Fits, Region.Apart]
  decide +kernel

theorem witness_UnpadTruncatesByTheLastByte :
    let s := unpadState
    0 < s.arg 1 ∧ 3 = (s.byteAt (s.arg 0 + s.arg 1 - 1)).toNat ∧ 3 ≤ s.arg 1 ∧
      (s.argRegion 0 1).Fits s ∧ (s.argSized 2 (s.arg 1 - 3)).Fits s ∧
      (s.argSized 2 (s.arg 1 - 3)).Apart (s.argRegion 0 1) := by
  simp only [Region.Fits, Region.Apart]
  decide +kernel

theorem witness_UnpadUndoesPad : 1 ≤ 255 ∧ 255 ≤ 255 := by decide

/-! ## Witnesses: CBC -/

theorem witness_CbcencIssuesTheFirstRequest :
    CbcReady .cbcenc (cbcencState.argSized 6 (cbcencState.arg 1
      + padLen (cbcencState.arg 1) cbcencState.blkLen)) cbcencState := by
  constructor <;> (try simp only [Region.Fits, Region.Apart]) <;> decide +kernel

theorem witness_CbcencContinues :
    let s := answered .cbcenc twoBlocks (.ok [0x77, 0x88])
    s.progress = .answered twoBlocks (.ok [0x77, 0x88]) ∧
      ([0x77, 0x88] : List Byte).length = s.blkLen ∧
      (twoBlocks.block + 1) * s.blkLen < twoBlocks.data.length := by
  refine ⟨rfl, ?_, ?_⟩ <;> decide +kernel

theorem witness_CbcencCompletes :
    let s := answered .cbcenc oneBlock (.ok [0x77, 0x88])
    s.progress = .answered oneBlock (.ok [0x77, 0x88]) ∧
      ([0x77, 0x88] : List Byte).length = s.blkLen ∧
      oneBlock.data.length ≤ (oneBlock.block + 1) * s.blkLen := by
  refine ⟨rfl, ?_, ?_⟩ <;> decide +kernel

theorem witness_CbcdecIssuesTheFirstRequest :
    CbcReady .cbcdec (cbcdecState.argRegion 6 1) cbcdecState ∧ 0 < cbcdecState.arg 1 ∧
      cbcdecState.arg 1 % cbcdecState.blkLen = 0 := by
  refine ⟨?_, by decide +kernel, by decide +kernel⟩
  constructor <;> (try simp only [Region.Fits, Region.Apart]) <;> decide +kernel

theorem witness_CbcdecContinues :
    let s := answered .cbcdec twoBlocks (.ok [0x77, 0x88])
    s.progress = .answered twoBlocks (.ok [0x77, 0x88]) ∧
      ([0x77, 0x88] : List Byte).length = s.blkLen ∧ twoBlocks.prev.length = s.blkLen ∧
      (twoBlocks.block + 1) * s.blkLen < twoBlocks.data.length := by
  refine ⟨rfl, ?_, ?_, ?_⟩ <;> decide +kernel

/-- The boundary of the first clause: the last decrypted byte is 2, the length. -/
theorem witness_CbcdecCompletes_success :
    let s := answered .cbcdec oneBlock (.ok [0x00, 0x20])
    s.progress = .answered oneBlock (.ok [0x00, 0x20]) ∧
      ([0x00, 0x20] : List Byte).length = s.blkLen ∧ oneBlock.prev.length = s.blkLen ∧
      0 < s.blkLen ∧ oneBlock.data.length = (oneBlock.block + 1) * s.blkLen ∧
      ((xorBytes [0x00, 0x20] oneBlock.prev).getLastD 0).toNat ≤ oneBlock.data.length := by
  refine ⟨rfl, ?_, ?_, ?_, ?_, ?_⟩ <;> decide +kernel

/-- The boundary of the second clause: the last decrypted byte is 3. -/
theorem witness_CbcdecCompletes_error :
    let s := answered .cbcdec oneBlock (.ok [0x00, 0x21])
    s.progress = .answered oneBlock (.ok [0x00, 0x21]) ∧
      ([0x00, 0x21] : List Byte).length = s.blkLen ∧ oneBlock.prev.length = s.blkLen ∧
      0 < s.blkLen ∧ oneBlock.data.length = (oneBlock.block + 1) * s.blkLen ∧
      oneBlock.data.length < ((xorBytes [0x00, 0x21] oneBlock.prev).getLastD 0).toNat := by
  refine ⟨rfl, ?_, ?_, ?_, ?_, ?_⟩ <;> decide +kernel

theorem witness_EcbFailureLeavesOtherBytes :
    (answered .cbcenc oneBlock .fail).progress = .answered oneBlock .fail ∧
      (answered .cbcdec oneBlock .fail).progress = .answered oneBlock .fail := ⟨rfl, rfl⟩

/-- CBCDEC waiting for the answer to its only request. -/
def waitingState : State :=
  { running .cbcdec [0, 2, 8, 1, 16, 2, 32] 2 [] with
    engine := .waitEcb, progress := .waiting oneBlock, dirty := some { addr := 32, len := 2 },
    pend := some { dir := .dec, key := [0xAB], block := [0x30, 0x41] } }

theorem witness_OracleAnswersReachTheWaitingEngine :
    waitingState.engine = .waitEcb ∧ waitingState.progress = .waiting oneBlock ∧
      (∀ y, EcbAnswer.ok [0x14, 0x23] = .ok y → y.length = waitingState.blkLen) ∧
      cbcdecState.engine ≠ .waitEcb := by
  refine ⟨rfl, rfl, fun y h => ?_, by decide⟩
  cases h
  decide +kernel

/-- The engine waits for request 2, and an answer to request 1 arrives. -/
def lateState : State := { waitingState with issued := 2 }

theorem witness_OracleAnswersReachTheWaitingEngine_late :
    lateState.engine = .waitEcb ∧ 1 ≠ lateState.issued := by decide

/-- A step that issues a request. -/
theorem witness_OracleAnswersReachTheWaitingEngine_step :
    step cbcencState = .next (stateOf (step cbcencState) cbcencState) ∧
      cbcencState.engine ≠ .waitEcb ∧
      (stateOf (step cbcencState) cbcencState).engine = .waitEcb :=
  ⟨next_stateOf _ _ (by decide +kernel), by decide, by decide +kernel⟩

/-- R205 b: the answer to a request that SRST abandoned is discarded, also while the engine waits for the
answer to a later one. -/
theorem test_late_answer : oracleStep 1 (.ok [0x14, 0x23]) lateState = .next lateState := rfl

/-- R182: the answer to the outstanding request reaches the engine. -/
theorem test_answer :
    (stateOf (oracleStep 2 (.ok [0x14, 0x23]) lateState) lateState).engine = .run := by
  decide +kernel

/-- An oracle of one-byte-wise complement: its own inverse, and it keeps the length. -/
def complement (_ x : List Byte) : List Byte := x.map (fun b => ~~~b)

theorem complement_length (k x : List Byte) : (complement k x).length = x.length := by
  simp [complement]

theorem complement_inverse (k x : List Byte) : complement k (complement k x) = x := by
  simp [complement, Function.comp_def]

theorem witness_CbcencComputesCbcEncryption :
    CbcReady .cbcenc (cbcencState.argSized 6 (cbcencState.arg 1
      + padLen (cbcencState.arg 1) cbcencState.blkLen)) cbcencState ∧
      ∀ k x, x.length = cbcencState.blkLen → (complement k x).length = cbcencState.blkLen :=
  ⟨witness_CbcencIssuesTheFirstRequest, fun k x h => by rw [complement_length, h]⟩

/-- A one-block CBCDEC whose last ciphertext byte is given. -/
def cbcdecOf (c : Nat) : State :=
  running .cbcdec [0, 2, 8, 1, 16, 2, 32] 2
    (cellsAt 0 [0x30, c] ++ cellsAt 8 [0xAB] ++ cellsAt 16 [0x11, 0x22])

/-- What the complement decrypts it to. -/
def cbcdecRaw (s : State) : List Byte :=
  cbcDecryptRaw (complement (s.readRegion (s.argRegion 2 3))) s.blkLen
    (s.readRegion (s.argRegion 4 5)) (s.readRegion (s.argRegion 0 1))

/-- The first end, at its bound: the last decrypted byte is 2, the length. -/
theorem witness_CbcdecComputesCbcDecryption_success :
    let s := cbcdecOf 0xDF
    CbcReady .cbcdec (s.argRegion 6 1) s ∧ 0 < s.arg 1 ∧ s.arg 1 % s.blkLen = 0 ∧
      (∀ k x, x.length = s.blkLen → (complement k x).length = s.blkLen) ∧
      ((cbcdecRaw s).getLastD 0).toNat = s.arg 1 := by
  refine ⟨?_, by decide +kernel, by decide +kernel,
    fun k x h => by rw [complement_length]; exact h, by decide +kernel⟩
  constructor <;> (try simp only [Region.Fits, Region.Apart]) <;> decide +kernel

/-- The second end, at its bound: the last decrypted byte is 3. -/
theorem witness_CbcdecComputesCbcDecryption_error :
    let s := cbcdecOf 0xDE
    CbcReady .cbcdec (s.argRegion 6 1) s ∧ 0 < s.arg 1 ∧ s.arg 1 % s.blkLen = 0 ∧
      (∀ k x, x.length = s.blkLen → (complement k x).length = s.blkLen) ∧
      ((cbcdecRaw s).getLastD 0).toNat = s.arg 1 + 1 := by
  refine ⟨?_, by decide +kernel, by decide +kernel,
    fun k x h => by rw [complement_length]; exact h, by decide +kernel⟩
  constructor <;> (try simp only [Region.Fits, Region.Apart]) <;> decide +kernel

/-- The state that CBCENC on `cbcencState` ends in, against the complement. -/
def encrypted : State := stateOf (drive (functionalOracle complement complement) 3 cbcencState) cbcencState

/-- CBCDEC on a machine that holds that ciphertext, the key and the IV. -/
def decrypting : State :=
  running .cbcdec [0, 2, 8, 1, 16, 2, 32] 2
    (cellsFrom 0 (encrypted.memRead 32 2) ++ cellsAt 8 [0xAB] ++ cellsAt 16 [0x11, 0x22])

theorem witness_CbcRoundTripRestoresTheMessage :
    let s := cbcencState
    let t := encrypted
    let u := decrypting
    bufSizeWellFormed s.bufSize = true ∧
      CbcReady .cbcenc (s.argSized 6 (s.arg 1 + padLen (s.arg 1) s.blkLen)) s ∧
      (∀ k x, x.length = s.blkLen →
        (complement k x).length = s.blkLen ∧ complement k (complement k x) = x) ∧
      (∀ k x, x.length = s.blkLen → (complement k x).length = s.blkLen) ∧
      drive (functionalOracle complement complement) 3 s = .next t ∧ t.engine = .idle ∧
      CbcReady .cbcdec (u.argRegion 6 1) u ∧ u.blkLen = s.blkLen ∧
      u.arg 1 = t.resLen.toNat ∧
      u.readRegion (u.argRegion 0 1) = t.memRead (s.arg 6) t.resLen.toNat ∧
      u.readRegion (u.argRegion 2 3) = s.readRegion (s.argRegion 2 3) ∧
      u.readRegion (u.argRegion 4 5) = s.readRegion (s.argRegion 4 5) := by
  intro s t u
  refine ⟨by decide, witness_CbcencIssuesTheFirstRequest,
    fun k x h => ⟨by rw [complement_length]; exact h, complement_inverse k x⟩,
    fun k x h => by rw [complement_length]; exact h, ?_, by decide +kernel, ?_,
    by decide +kernel, by decide +kernel, by decide +kernel, by decide +kernel,
    by decide +kernel⟩
  · exact next_stateOf _ _ (by decide +kernel)
  · constructor <;> (try simp only [Region.Fits, Region.Apart]) <;> decide +kernel

/-! ## Witnesses: errors and host port -/

theorem witness_ValidationErrorsChangeNothing :
    let s := running .cbcenc [0, 9999, 0, 0, 0, 3, 0] 2 []
    s.progress = .fresh ∧ firstFailure (validation .cbcenc s) = some .invalidIVLength := by
  refine ⟨rfl, ?_⟩
  decide +kernel

/-- One state for each clause, at the least value that meets it. -/
theorem witness_XorReportsTheFirstFailedCheck :
    let a := running .xor [0, 0, 0, 1, 0] 16 []
    let b := running .xor [4096, 1, 0, 1, 8] 16 []
    let c := running .xor [0, 2, 8, 2, 1] 16 []
    (a.arg 1 ≠ a.arg 3) ∧
      (b.arg 1 = b.arg 3 ∧ ¬((b.argRegion 0 1).Fits b ∧ (b.argRegion 2 3).Fits b ∧
        (b.argRegion 4 1).Fits b)) ∧
      (c.arg 1 = c.arg 3 ∧ ((c.argRegion 0 1).Fits c ∧ (c.argRegion 2 3).Fits c ∧
        (c.argRegion 4 1).Fits c) ∧
        ¬((c.argRegion 4 1).Apart (c.argRegion 0 1) ∧
          (c.argRegion 4 1).Apart (c.argRegion 2 3))) := by
  simp only [Region.Fits, Region.Apart]
  decide +kernel

/-- A running command with no reference table in its snapshot. -/
def unloaded (i : Instr) (args : List Nat) : State :=
  { running i args 16 [] with snap := { (running i args 16 []).snap with refValid := false } }

theorem witness_TextCommandsReportTheFirstFailedCheck_rxor :
    let a := running .rxor [0, 0, 0, 0, 0] 16 []
    let b := running .rxor [4096, 1, 0, 1, 8] 16 []
    let c := running .rxor [0, 2, 8, 2, 1] 16 []
    a.arg 1 = 0 ∧
      (0 < b.arg 1 ∧ ¬((b.argRegion 0 1).Fits b ∧ (b.argRegion 2 3).Fits b ∧
        (b.argRegion 4 3).Fits b)) ∧
      (0 < c.arg 1 ∧ ((c.argRegion 0 1).Fits c ∧ (c.argRegion 2 3).Fits c ∧
        (c.argRegion 4 3).Fits c) ∧
        ¬((c.argRegion 4 3).Apart (c.argRegion 0 1) ∧
          (c.argRegion 4 3).Apart (c.argRegion 2 3))) := by
  simp only [Region.Fits, Region.Apart]
  decide +kernel

theorem witness_TextCommandsReportTheFirstFailedCheck_hist :
    let a := running .hist [0, 1, 3069] 16 []
    let b := running .hist [1027, 1, 0] 16 []
    ¬((a.argRegion 0 1).Fits a ∧ (a.argSized 2 1028).Fits a) ∧
      (((b.argRegion 0 1).Fits b ∧ (b.argSized 2 1028).Fits b) ∧
        ¬(b.argSized 2 1028).Apart (b.argRegion 0 1)) := by
  simp only [Region.Fits, Region.Apart]
  decide +kernel

theorem witness_TextCommandsReportTheFirstFailedCheck_relfreq :
    let a := running .relfreq [0, 0, 0] 16 []
    let b := running .relfreq [0, 1, 2041] 16 []
    let c := running .relfreq [2055, 1, 0] 16 []
    a.arg 1 = 0 ∧
      (0 < b.arg 1 ∧ ¬((b.argRegion 0 1).Fits b ∧ (b.argSized 2 2056).Fits b)) ∧
      (0 < c.arg 1 ∧ ((c.argRegion 0 1).Fits c ∧ (c.argSized 2 2056).Fits c) ∧
        ¬(c.argSized 2 2056).Apart (c.argRegion 0 1)) := by
  simp only [Region.Fits, Region.Apart]
  decide +kernel

/-- The bad weight is the first entry of the first table, then the last entry of the second. -/
theorem witness_TextCommandsReportTheFirstFailedCheck_bcoef :
    let a := running .bcoef [0, 2049] 16 []
    let b := running .bcoef [8, 0] 16 (cellsAt 8 [0, 0, 0, 0, 0, 0, 0, 0x80])
    let c := running .bcoef [0, 8] 16 (cellsAt 2048 [0, 0, 0, 0, 0, 0, 0xF0, 0x7F])
    ¬((a.argSized 0 2048).Fits a ∧ (a.argSized 1 2048).Fits a) ∧
      (((b.argSized 0 2048).Fits b ∧ (b.argSized 1 2048).Fits b) ∧
        BadWeight (b.f64At (b.arg 0 + 8 * 0))) ∧
      (((c.argSized 0 2048).Fits c ∧ (c.argSized 1 2048).Fits c) ∧ 255 < 256 ∧
        BadWeight (c.f64At (c.arg 1 + 8 * 255))) := by
  simp only [Region.Fits, BadWeight]
  decide +kernel

theorem witness_TextCommandsReportTheFirstFailedCheck_score :
    let a := running .score [0, 0] 16 []
    let b := unloaded .score [0, 1]
    let c := running .score [4096, 1] 16 []
    a.arg 1 = 0 ∧ (0 < b.arg 1 ∧ b.snap.refValid = false) ∧
      (0 < c.arg 1 ∧ c.snap.refValid = true ∧ ¬(c.argRegion 0 1).Fits c) := by
  simp only [Region.Fits]
  decide +kernel

theorem witness_TextCommandsReportTheFirstFailedCheck_ldref :
    let a := running .ldref [2049] 16 []
    ¬(a.argSized 0 2048).Fits a := by
  simp only [Region.Fits]
  decide +kernel

theorem witness_TextCommandsReportTheFirstFailedCheck_xscore :
    let a := running .xscore [0, 0, 0, 0, 0] 16 []
    let b := running .xscore [0, 1, 0, 0, 0] 16 []
    let c := unloaded .xscore [0, 1, 0, 1, 0]
    let d := running .xscore [4096, 1, 0, 1, 8] 16 []
    let e := running .xscore [0, 2, 8, 2, 1] 16 []
    a.arg 1 = 0 ∧ (0 < b.arg 1 ∧ b.arg 3 = 0) ∧
      (0 < c.arg 1 ∧ 0 < c.arg 3 ∧ c.snap.refValid = false) ∧
      (0 < d.arg 1 ∧ 0 < d.arg 3 ∧ d.snap.refValid = true ∧
        ¬((d.argRegion 0 1).Fits d ∧ (d.argRegion 2 3).Fits d ∧ (d.argRegion 4 3).Fits d)) ∧
      (0 < e.arg 1 ∧ 0 < e.arg 3 ∧ e.snap.refValid = true ∧
        ((e.argRegion 0 1).Fits e ∧ (e.argRegion 2 3).Fits e ∧ (e.argRegion 4 3).Fits e) ∧
        ¬((e.argRegion 4 3).Apart (e.argRegion 0 1) ∧
          (e.argRegion 4 3).Apart (e.argRegion 2 3))) := by
  simp only [Region.Fits, Region.Apart]
  decide +kernel

theorem witness_TextCommandsReportTheFirstFailedCheck_bestxor :
    let a := running .bestxor [0, 0, 0, 1, 0] 16 []
    let b := running .bestxor [0, 1, 0, 0, 0] 16 []
    let c := unloaded .bestxor [0, 1, 0, 1, 0]
    let d := running .bestxor [4089, 1, 0, 1, 8] 16 []
    a.arg 1 = 0 ∧ b.arg 3 = 0 ∧
      (0 < c.arg 1 ∧ 0 < c.arg 3 ∧ c.snap.refValid = false) ∧
      (0 < d.arg 1 ∧ 0 < d.arg 3 ∧ d.snap.refValid = true ∧
        ¬(d.descTable.Fits d ∧ (d.argRegion 2 3).Fits d ∧ (d.argRegion 4 3).Fits d)) := by
  simp only [Region.Fits]
  decide +kernel

/-- BESTXOR's entries, from the table at 32: one that is empty and ends above BUF_SIZE, an empty one
after a good one, and one that is dst. -/
theorem witness_TextCommandsReportTheFirstFailedCheck_bestxor_entries :
    let a := running .bestxor [32, 1, 0, 1, 64] 16 (cellsAt 32 [0x01, 0x10, 0, 0, 0, 0, 0, 0])
    let b := running .bestxor [32, 2, 0, 1, 64] 16
      (cellsAt 32 [0, 0, 0, 0, 1, 0, 0, 0, 0, 0, 0, 0, 0, 0, 0, 0])
    let c := running .bestxor [32, 1, 0, 1, 64] 16 (cellsAt 32 [64, 0, 0, 0, 1, 0, 0, 0])
    (∀ s : State, s = a ∨ s = b ∨ s = c → 0 < s.arg 1 ∧ 0 < s.arg 3 ∧ s.snap.refValid = true ∧
        s.descTable.Fits s ∧ (s.argRegion 2 3).Fits s ∧ (s.argRegion 4 3).Fits s) ∧
      (0 < a.arg 1 ∧ ¬(a.descEntry 0).Fits a ∧ (a.descEntry 0).len = 0) ∧
      (1 < b.arg 1 ∧ (∀ k, k < 1 → (b.descEntry k).Fits b ∧ 0 < (b.descEntry k).len) ∧
        (b.descEntry 1).Fits b ∧ (b.descEntry 1).len = 0) ∧
      ((∀ j, j < c.arg 1 → (c.descEntry j).Fits c ∧ 0 < (c.descEntry j).len) ∧
        ¬((c.argRegion 4 3).Apart c.descTable ∧ (c.argRegion 4 3).Apart (c.argRegion 2 3) ∧
          ∀ j, j < c.arg 1 → (c.argRegion 4 3).Apart (c.descEntry j))) := by
  intro a b c
  simp only [Region.Fits, Region.Apart]
  refine ⟨?_, by decide +kernel, by decide +kernel, by decide +kernel⟩
  rintro s (rfl | rfl | rfl) <;> decide +kernel

theorem witness_TextCommandsReportTheFirstFailedCheck_sbxor :
    let a := running .sbxor [0, 0, 0] 16 []
    let b := unloaded .sbxor [0, 1, 0]
    let c := running .sbxor [4096, 1, 0] 16 []
    let d := running .sbxor [0, 2, 1] 16 []
    a.arg 1 = 0 ∧ (0 < b.arg 1 ∧ b.snap.refValid = false) ∧
      (0 < c.arg 1 ∧ c.snap.refValid = true ∧
        ¬((c.argRegion 0 1).Fits c ∧ (c.argRegion 2 1).Fits c)) ∧
      (0 < d.arg 1 ∧ d.snap.refValid = true ∧
        ((d.argRegion 0 1).Fits d ∧ (d.argRegion 2 1).Fits d) ∧
        ¬(d.argRegion 2 1).Apart (d.argRegion 0 1)) := by
  simp only [Region.Fits, Region.Apart]
  decide +kernel

theorem witness_TextCommandsReportTheFirstFailedCheck_detect :
    let a := running .detect [0, 0, 0] 16 []
    let b := unloaded .detect [0, 1, 0]
    let c := running .detect [4089, 1, 0] 16 []
    a.arg 1 = 0 ∧ (0 < b.arg 1 ∧ b.snap.refValid = false) ∧
      (0 < c.arg 1 ∧ c.snap.refValid = true ∧ ¬c.descTable.Fits c) := by
  simp only [Region.Fits]
  decide +kernel

/-- DETECT's lines, from the table at 32: one that is empty and ends above BUF_SIZE, an empty one after a
good one, and one of two bytes with dst at the end of the scratchpad or over the table. -/
theorem witness_TextCommandsReportTheFirstFailedCheck_detect_entries :
    let a := running .detect [32, 1, 64] 16 (cellsAt 32 [0x01, 0x10, 0, 0, 0, 0, 0, 0])
    let b := running .detect [32, 2, 64] 16
      (cellsAt 32 [0, 0, 0, 0, 1, 0, 0, 0, 0, 0, 0, 0, 0, 0, 0, 0])
    let c := running .detect [32, 1, 4095] 16 (cellsAt 32 [0, 0, 0, 0, 2, 0, 0, 0])
    let d := running .detect [32, 1, 39] 16 (cellsAt 32 [0, 0, 0, 0, 2, 0, 0, 0])
    (∀ s : State, s = a ∨ s = b ∨ s = c ∨ s = d →
        0 < s.arg 1 ∧ s.snap.refValid = true ∧ s.descTable.Fits s) ∧
      (0 < a.arg 1 ∧ ¬(a.descEntry 0).Fits a ∧ (a.descEntry 0).len = 0) ∧
      (1 < b.arg 1 ∧ (∀ k, k < 1 → (b.descEntry k).Fits b ∧ 0 < (b.descEntry k).len) ∧
        (b.descEntry 1).Fits b ∧ (b.descEntry 1).len = 0) ∧
      (∀ s : State, s = c ∨ s = d →
        (∀ j, j < s.arg 1 →
          (s.descEntry j).Fits s ∧ 0 < (s.descEntry j).len ∧ (s.descEntry j).len ≤ 2) ∧
        (0 < s.arg 1 ∧ (s.descEntry 0).len = 2)) ∧
      ¬(c.argSized 2 2).Fits c ∧
      ((d.argSized 2 2).Fits d ∧
        ¬((d.argSized 2 2).Apart d.descTable ∧
          ∀ j, j < d.arg 1 → (d.argSized 2 2).Apart (d.descEntry j))) := by
  intro a b c d
  simp only [Region.Fits, Region.Apart]
  refine ⟨?_, by decide +kernel, by decide +kernel, ?_, by decide +kernel, by decide +kernel⟩
  · rintro s (rfl | rfl | rfl | rfl) <;> decide +kernel
  · rintro s (rfl | rfl) <;> decide +kernel

theorem witness_BlockCommandsReportTheFirstFailedCheck_pad :
    let a := running .pad [0, 0, 0] 0 []
    let b := running .pad [0, 1, 4093] 4 []
    let c := running .pad [0, 1, 0] 4 []
    a.blkLen = 0 ∧
      (0 < b.blkLen ∧ 4 = b.arg 1 + (b.blkLen - b.arg 1 % b.blkLen) ∧
        ¬((b.argRegion 0 1).Fits b ∧ (b.argSized 2 4).Fits b)) ∧
      (0 < c.blkLen ∧ 4 = c.arg 1 + (c.blkLen - c.arg 1 % c.blkLen) ∧
        ((c.argRegion 0 1).Fits c ∧ (c.argSized 2 4).Fits c) ∧
        ¬(c.argSized 2 4).Apart (c.argRegion 0 1)) := by
  simp only [Region.Fits, Region.Apart]
  decide +kernel

theorem witness_BlockCommandsReportTheFirstFailedCheck_unpad :
    let a := running .unpad [0, 0, 0] 4 []
    let b := running .unpad [4096, 1, 0] 4 []
    let c := running .unpad [0, 1, 0] 4 (cellsAt 0 [2])
    let d := running .unpad [0, 2, 4096] 4 (cellsAt 0 [0, 1])
    let e := running .unpad [0, 1, 0] 4 (cellsAt 0 [0])
    a.arg 1 = 0 ∧ (0 < b.arg 1 ∧ ¬(b.argRegion 0 1).Fits b) ∧
      (0 < c.arg 1 ∧ (c.argRegion 0 1).Fits c ∧
        2 = (c.byteAt (c.arg 0 + c.arg 1 - 1)).toNat ∧ c.arg 1 < 2) ∧
      (0 < d.arg 1 ∧ (d.argRegion 0 1).Fits d ∧
        1 = (d.byteAt (d.arg 0 + d.arg 1 - 1)).toNat ∧ 1 ≤ d.arg 1 ∧
        ¬(d.argSized 2 (d.arg 1 - 1)).Fits d) ∧
      (0 < e.arg 1 ∧ (e.argRegion 0 1).Fits e ∧
        0 = (e.byteAt (e.arg 0 + e.arg 1 - 1)).toNat ∧ 0 ≤ e.arg 1 ∧
        (e.argSized 2 (e.arg 1 - 0)).Fits e ∧
        ¬(e.argSized 2 (e.arg 1 - 0)).Apart (e.argRegion 0 1)) := by
  simp only [Region.Fits, Region.Apart]
  decide +kernel

theorem witness_BlockCommandsReportTheFirstFailedCheck_cbcenc :
    let a := running .cbcenc [0, 0, 0, 0, 0, 0, 0] 0 []
    let b := running .cbcenc [0, 0, 0, 0, 0, 0, 0] 1 []
    let c := running .cbcenc [0, 1, 8, 1, 16, 2, 4095] 2 []
    let d := running .cbcenc [0, 1, 8, 1, 16, 2, 17] 2 []
    (a.progress = .fresh ∧ b.progress = .fresh ∧ c.progress = .fresh ∧ d.progress = .fresh) ∧
      a.blkLen = 0 ∧ (0 < b.blkLen ∧ b.arg 5 ≠ b.blkLen) ∧
      (0 < c.blkLen ∧ c.arg 5 = c.blkLen ∧ 2 = c.arg 1 + (c.blkLen - c.arg 1 % c.blkLen) ∧
        ¬((c.argRegion 0 1).Fits c ∧ (c.argRegion 2 3).Fits c ∧ (c.argRegion 4 5).Fits c ∧
          (c.argSized 6 2).Fits c)) ∧
      (0 < d.blkLen ∧ d.arg 5 = d.blkLen ∧ 2 = d.arg 1 + (d.blkLen - d.arg 1 % d.blkLen) ∧
        ((d.argRegion 0 1).Fits d ∧ (d.argRegion 2 3).Fits d ∧ (d.argRegion 4 5).Fits d ∧
          (d.argSized 6 2).Fits d) ∧
        ¬((d.argSized 6 2).Apart (d.argRegion 0 1) ∧ (d.argSized 6 2).Apart (d.argRegion 2 3) ∧
          (d.argSized 6 2).Apart (d.argRegion 4 5))) := by
  simp only [Region.Fits, Region.Apart]
  refine ⟨⟨rfl, rfl, rfl, rfl⟩, ?_⟩
  decide +kernel

theorem witness_BlockCommandsReportTheFirstFailedCheck_cbcdec :
    let a := running .cbcdec [0, 0, 0, 0, 0, 0, 0] 0 []
    let b := running .cbcdec [0, 0, 0, 0, 0, 0, 0] 1 []
    let c := running .cbcdec [0, 1, 0, 0, 0, 2, 0] 2 []
    let d := running .cbcdec [0, 0, 0, 0, 0, 2, 0] 2 []
    let e := running .cbcdec [0, 2, 8, 1, 16, 2, 4095] 2 []
    let f := running .cbcdec [0, 2, 8, 1, 16, 2, 17] 2 []
    (a.progress = .fresh ∧ b.progress = .fresh ∧ c.progress = .fresh ∧ d.progress = .fresh ∧
        e.progress = .fresh ∧ f.progress = .fresh) ∧
      a.blkLen = 0 ∧ (0 < b.blkLen ∧ b.arg 5 ≠ b.blkLen) ∧
      (0 < c.blkLen ∧ c.arg 5 = c.blkLen ∧ c.arg 1 % c.blkLen ≠ 0) ∧
      (0 < d.blkLen ∧ d.arg 5 = d.blkLen ∧ d.arg 1 = 0) ∧
      (0 < e.blkLen ∧ e.arg 5 = e.blkLen ∧ e.arg 1 % e.blkLen = 0 ∧ 0 < e.arg 1 ∧
        ¬((e.argRegion 0 1).Fits e ∧ (e.argRegion 2 3).Fits e ∧ (e.argRegion 4 5).Fits e ∧
          (e.argRegion 6 1).Fits e)) ∧
      (0 < f.blkLen ∧ f.arg 5 = f.blkLen ∧ f.arg 1 % f.blkLen = 0 ∧ 0 < f.arg 1 ∧
        ((f.argRegion 0 1).Fits f ∧ (f.argRegion 2 3).Fits f ∧ (f.argRegion 4 5).Fits f ∧
          (f.argRegion 6 1).Fits f) ∧
        ¬((f.argRegion 6 1).Apart (f.argRegion 0 1) ∧ (f.argRegion 6 1).Apart (f.argRegion 2 3) ∧
          (f.argRegion 6 1).Apart (f.argRegion 4 5))) := by
  simp only [Region.Fits, Region.Apart]
  refine ⟨⟨rfl, rfl, rfl, rfl, rfl, rfl⟩, ?_⟩
  decide +kernel

/-- An idle machine with CMD, the ARG registers, BLKSZ and the scratchpad as given, and START. -/
def startedWith (i : Instr) (args : List Nat) (blksz : Nat) (cells : List Host.Cell) : State :=
  hostWrite 0x008 .word 1
    { idle with
      cmd := encode i, args := Vector.ofFn (fun j => BitVec.ofNat 32 (args.getD j.val 0)),
      blksz := BitVec.ofNat 8 blksz, sp := { cells := cells } }

theorem witness_StartTakesTheSnapshot :
    idle.engine = .idle ∧ (1#32).getLsbD 0 = true ∧ (1#32).getLsbD 1 = false ∧
      ∀ i, decode { idle with cmd := encode i }.cmd = .ok i := by
  refine ⟨rfl, by decide, by decide, fun i => ?_⟩
  cases i <;> decide

/-- The lengths that exist: DETECT's longest line, the padded length, UNPAD's p at the length. -/
theorem witness_StartTakesTheSnapshot_lengths :
    let a := startedWith .detect [32, 1, 64] 16 (cellsAt 32 [0, 0, 0, 0, 2, 0, 0, 0])
    let b := startedWith .pad [0, 1, 4095] 1 []
    let c := startedWith .unpad [0, 1, 64] 4 (cellsAt 0 [1])
    (a.descTable.Fits a ∧ (∀ j, j < a.arg 1 → (a.descEntry j).len ≤ 2) ∧
        ∃ j, j < a.arg 1 ∧ (a.descEntry j).len = 2) ∧
      0 < b.blkLen ∧
      (0 < c.arg 1 ∧ (c.argRegion 0 1).Fits c ∧
        1 = (c.byteAt (c.arg 0 + c.arg 1 - 1)).toNat ∧ 1 ≤ c.arg 1) := by
  simp only [Region.Fits]
  decide +kernel

/-- The lengths that do not exist: no block size; no last byte, one that cannot be read, one above the
length; no line, and a table above BUF_SIZE. -/
theorem witness_StartTakesTheSnapshot_none :
    let a := startedWith .pad [0, 1, 64] 0 []
    let b := startedWith .unpad [0, 0, 64] 4 []
    let c := startedWith .unpad [4096, 1, 64] 4 []
    let d := startedWith .unpad [0, 1, 64] 4 (cellsAt 0 [2])
    let e := startedWith .detect [32, 0, 64] 16 []
    let f := startedWith .detect [4089, 1, 64] 16 []
    a.blkLen = 0 ∧ b.arg 1 = 0 ∧ ¬(c.argRegion 0 1).Fits c ∧
      d.arg 1 < (d.byteAt (d.arg 0 + d.arg 1 - 1)).toNat ∧ e.arg 1 = 0 ∧ ¬f.descTable.Fits f ∧
      decode 0 = .error .unlistedOpcode := by
  simp only [Region.Fits]
  decide +kernel

/-- R245: the output region of a running XOR is DIRTY though its check will fail with E_OVERLAP. -/
theorem test_dirty_overlap :
    let t := startedWith .xor [0, 3, 16, 3, 2] 16 []
    t.isDirty 1 = false ∧ t.isDirty 2 = true ∧ t.isDirty 4 = true ∧ t.isDirty 5 = false := by
  decide +kernel

/-- R245: the same where the output region ends above BUF_SIZE. -/
theorem test_dirty_range :
    let t := startedWith .xor [0, 3, 16, 3, 4094] 16 []
    t.isDirty 4093 = false ∧ t.isDirty 4095 = true := by decide +kernel

theorem witness_SoftResetClearsTheRegisters :
    (3#32).getLsbD 1 = true ∧ waitingState.dirty = some { addr := 32, len := 2 } ∧
      idle.engine = .idle := ⟨by decide, rfl, rfl⟩

theorem witness_ClearDoneClearsTheThreeFields :
    idle.engine = .idle ∧ (2#32).getLsbD 1 = true ∧ (0xFFFFFFFD#32).getLsbD 1 = false := by decide

theorem witness_BusyDropsHostWrites :
    waitingState.busy = true ∧
      (0x008 < 0x1000 ∧ 0x008 % 4 = 0 ∧ (1#32).getLsbD 1 = false ∧ (0x008#32) ≠ 0x010#32) ∧
      (0x10000 ≤ (0x10FFC#32).toNat ∧ ((0x10FFC#32).toNat - 0x10000) % Width.word.bytes = 0 ∧
        (0x10FFC#32).toNat - 0x10000 + Width.word.bytes ≤ waitingState.bufSize) := by
  decide +kernel

/-- The first and the last ARG register among them. -/
theorem witness_RegistersReadBackTheirWrittenBits :
    idle.engine = .idle ∧ (0x020#32).toNat = 0x020 + 4 * (0 : Fin 8).val ∧
      (0x03C#32).toNat = 0x020 + 4 * (7 : Fin 8).val := ⟨rfl, by decide, by decide⟩

/-- The first and the last offset of each range: ID, 0x01C, the result registers, the reserved offsets
and the REF window. -/
theorem witness_ReadOnlyOffsetsIgnoreWrites :
    (∀ off ∈ ([0x000, 0x01C, 0x040, 0x04C, 0x05C, 0x060, 0x7FC, 0x800, 0xFFC] : List Word),
      (off.toNat < 0x1000 ∧ off.toNat % 4 = 0) ∧
        (off.toNat = 0 ∨ off.toNat = 0x01C ∨ 0x040 ≤ off.toNat)) ∧
      (∀ off ∈ ([0x01C, 0x04C, 0x060, 0x7FC] : List Word),
        off.toNat = 0x01C ∨ off.toNat = 0x04C ∨ (0x060 ≤ off.toNat ∧ off.toNat < 0x800)) ∧
      (0x800#32).toNat = 0x800 + 8 * (0 : Fin 256).val ∧
      (0x804#32).toNat = 0x800 + 8 * (0 : Fin 256).val + 4 ∧
      (0xFF8#32).toNat = 0x800 + 8 * (255 : Fin 256).val ∧
      (0xFFC#32).toNat = 0x800 + 8 * (255 : Fin 256).val + 4 :=
  ⟨by simp, by simp, by decide, by decide, rfl, rfl⟩

theorem witness_BusErrorHasNoEffect :
    ¬((0x10FFF#32).toNat < 0x1000 ∧ Width.half = .word ∧ (0x10FFF#32).toNat % 4 = 0) ∧
      ¬(0x10000 ≤ (0x10FFF#32).toNat ∧ ((0x10FFF#32).toNat - 0x10000) % Width.half.bytes = 0 ∧
        (0x10FFF#32).toNat - 0x10000 + Width.half.bytes ≤ idle.bufSize) := by decide +kernel

theorem witness_ScratchpadAccessIsLittleEndian :
    idle.engine = .idle ∧ (0x10FFE#32).toNat = 0x10000 + 0xFFE ∧ 0xFFE % Width.half.bytes = 0 ∧
      0xFFE + Width.half.bytes ≤ idle.bufSize := by decide +kernel

/-- An aligned word at the end of the scratchpad, and one of which two bytes are DIRTY. -/
theorem witness_HostReadsChangeNothing :
    ((0x10FFC#32).toNat = 0x10000 + 4092 ∧ 4092 % Width.word.bytes = 0 ∧
        4092 + Width.word.bytes ≤ waitingState.bufSize) ∧
      (0x10020#32).toNat = 0x10000 + 32 ∧ 32 % Width.word.bytes = 0 ∧
      32 + Width.word.bytes ≤ waitingState.bufSize ∧ waitingState.busy = true ∧
      waitingState.isDirty (32 + 1) = true ∧ waitingState.isDirty (32 + 2) = false := by
  decide +kernel

theorem witness_CommandStatementStartsItsCommand :
    idle.engine = .idle ∧ operandsWellFormed .score [7, 9] = true ∧
      (AsmStmt.command .score [7, 9]).expand
        = some [hostW 0x020 .word 7, hostW 0x024 .word 9, hostW 0x014 .word 0x13,
            hostW 0x008 .word 1, .hostWait] := by decide

/-! ## Witnesses: invariants -/

/-- XOR on empty operands, just started. -/
def startedXor : State := { idle with cmd := 1, refValid := false }.start

theorem startedXor_inv : State.Inv startedXor where
  bufSize := by decide
  memCanonical := by decide
  memBounded := by intro c hc; cases hc
  errDone := by decide
  codeZero := by decide
  codeListed := by intro h; cases h
  busyClear := by decide
  resultsClear := by intro _; decide
  idleQuiet := by intro h; cases h
  dirtyOutput := by intro _ _; rfl
  dirtyFits := by
    intro r h
    have hr : startedXor.dirty = some { addr := 0, len := 0 } := by decide +kernel
    rw [hr] at h
    cases h
    simp only [Region.Fits]
    decide
  refOk := by intro h; cases h
  snapRefOk := by intro _ h; cases h
  progress := ⟨by decide, rfl⟩

theorem witness_EveryStepKeepsTheInvariant :
    State.Inv startedXor ∧ step startedXor = .next (stateOf (step startedXor) startedXor) :=
  ⟨startedXor_inv, rfl⟩

theorem witness_RunningCommandWritesOnlyDirty :
    State.Inv startedXor ∧ startedXor.busy = true ∧
      step startedXor = .next (stateOf (step startedXor) startedXor) ∧
      startedXor.inputs.head? ≠ some .powerOn ∧
      (∀ r, startedXor.dirty = some r → r.Excludes 5) := by
  refine ⟨startedXor_inv, by decide, rfl, by decide, fun r h => ?_⟩
  have hr : startedXor.dirty = some { addr := 0, len := 0 } := by decide +kernel
  rw [hr] at h
  cases h
  exact .inr (by decide)

/-- LDREF of a table of zeros, with no reference table loaded before. -/
def loading : State := { zeroTables .ldref [2048] with refValid := false }

theorem witness_OnlyLdrefWritesTheReferenceTable :
    step loading = .next (loading.guarded (ldrefChecks loading) (ldrefBody loading)) ∧
      (loading.guarded (ldrefChecks loading) (ldrefBody loading)).refValid = true ∧
      loading.refValid = false := by
  have hok : firstFailure (ldrefChecks loading) = none := by
    rw [firstFailure_eq_none_iff]
    intro c hc
    simp only [ldrefChecks, List.mem_cons, List.not_mem_nil, or_false] at hc
    rcases hc with rfl | rfl
    · rw [State.needRange_ok_iff]
      decide +kernel
    · simp only [need_ok, State.tableOk, List.all_eq_true, List.mem_range]
      exact fun v hv => zeroTables_ldref_legal.2 v hv
  refine ⟨rfl, ?_, rfl⟩
  rw [State.guarded_of_none _ _ _ hok]
  rfl

/-- The same running command beside other registers, REF, results and STATUS. -/
def elsewhere (s : State) : State :=
  { s with
    sym := true, done := true, err := true, errCode := 3, ie := true, cmd := 7, blksz := 5,
    args := Vector.replicate 8 5, resLen := 1, resKey := 2, resIdx := 3, resScore := 4,
    ref := Vector.replicate 256 1, refValid := false, inputs := [.engine], issued := 9 }

/-- Completion at once (XOR), and a request (CBCENC). -/
theorem witness_CommandsAreFunctionsOfTheSnapshot :
    (∀ s : State, s = xorState ∨ s = cbcencState →
      let u := elsewhere s
      s.engine = .run ∧ u.engine = .run ∧ u.snap = s.snap ∧ u.sp = s.sp ∧ u.epoch = s.epoch ∧
        u.bufSize = s.bufSize ∧ u.progress = s.progress ∧ u.pend = s.pend ∧ u.dirty = s.dirty ∧
        u.draws = s.draws) ∧
      exec .xor xorState = .next (after .xor xorState) ∧
      exec .xor (elsewhere xorState) = .next (after .xor (elsewhere xorState)) ∧
      exec .cbcenc cbcencState = .next (after .cbcenc cbcencState) ∧
      exec .cbcenc (elsewhere cbcencState) = .next (after .cbcenc (elsewhere cbcencState)) ∧
      (after .xor xorState).engine = .idle ∧ (after .cbcenc cbcencState).engine ≠ .idle := by
  refine ⟨?_, rfl, rfl, rfl, rfl, by decide +kernel, by decide +kernel⟩
  rintro s (rfl | rfl) <;> exact ⟨rfl, rfl, rfl, rfl, rfl, rfl, rfl, rfl, rfl, rfl⟩

/-- Power-on reset while a command waits for the oracle. -/
theorem witness_ResetGivesThePowerOnValues :
    { waitingState with inputs := [.powerOn, .engine] }.inputs = .powerOn :: [.engine] := rfl

end Sys2Proof.Tests
end

section
/-! PROOF. The invariant `State.Inv` (R25, R31, R36, R38, R39, R70, R200, R206, R245): it holds after
reset, and every step keeps it. The part of it that speaks of the scratchpad and REF alone is kept by
every write (`StorageSound`); a state in which the engine rests needs nothing more than that part and
STATUS, so each completion and each reset is one use of `StorageSound.inv_of_rest`. -/

namespace Sys2Proof.Machine

/-! ## The scratchpad and REF -/

/-- The part of the invariant that does not speak of the engine: BUF_SIZE, the scratchpad and REF. -/
structure StorageSound (s : State) : Prop where
  bufSize : bufSizeWellFormed s.bufSize = true
  memCanonical : s.sp.wf = true
  memBounded : ∀ c ∈ s.sp.cells, c.1 < s.bufSize
  refOk : s.refValid = true → ∀ v, weightOk (s.ref.get v) = true

/-- The four result registers read 0 (R30, R31). -/
def ResultsZero (s : State) : Prop :=
  s.resLen = 0 ∧ s.resKey = 0 ∧ s.resIdx = 0 ∧ s.resScore = 0

theorem State.Inv.storage {s : State} (h : s.Inv) : StorageSound s := { h with }

namespace StorageSound

variable {s : State}

theorem memWrite (h : StorageSound s) {a : Nat} {bs : List Byte} (hb : a + bs.length ≤ s.bufSize) :
    StorageSound (s.memWrite a bs) where
  bufSize := h.bufSize
  memCanonical := s.sp.write_wf a bs h.memCanonical
  memBounded := s.sp.write_bounded a s.bufSize bs h.memBounded hb
  refOk := h.refOk

theorem scramble (h : StorageSound s) {r : Region} (hr : r.Fits s) : StorageSound (s.scramble r) :=
  have hw := h.memWrite (a := r.addr) (bs := s.freshBytes r.len) (by rwa [State.freshBytes_length])
  { hw with }

theorem setResLen (h : StorageSound s) (n : Nat) : StorageSound (s.setResLen n) := { h with }

theorem setResKey (h : StorageSound s) (k : Byte) : StorageSound (s.setResKey k) := { h with }

theorem setResIdx (h : StorageSound s) (n : Nat) : StorageSound (s.setResIdx n) := { h with }

theorem setResScore (h : StorageSound s) (x : F64) : StorageSound (s.setResScore x) := { h with }

theorem loadRef (h : StorageSound s) {w : Nat → F64} (hw : ∀ v, v < 256 → weightOk (w v) = true) :
    StorageSound (s.loadRef w) where
  bufSize := h.bufSize
  memCanonical := h.memCanonical
  memBounded := h.memBounded
  refOk := fun _ v => by simpa [Vector.get_eq_getElem] using hw v v.isLt

/-! ## States in which the engine rests -/

/-- With the engine at rest, the invariant is about storage and STATUS only. -/
theorem inv_of_rest (h : StorageSound s) (hr : AtRest s) (errDone : s.err = true → s.done = true)
    (codeZero : s.err = false → s.errCode = 0)
    (codeListed : s.err = true → ∃ c : ErrCode, c ≠ .keysizeTooLarge ∧ s.errCode = c.code)
    (resultsClear : s.err = true → ResultsZero s) : s.Inv where
  bufSize := h.bufSize
  memCanonical := h.memCanonical
  memBounded := h.memBounded
  errDone := errDone
  codeZero := codeZero
  codeListed := codeListed
  busyClear := fun hb => absurd hr.engine (s.busy_iff.mp hb)
  resultsClear
    | .inl hb => absurd hr.engine (s.busy_iff.mp hb)
    | .inr he => resultsClear he
  idleQuiet := fun _ => ⟨hr.dirty, hr.progress⟩
  dirtyOutput := fun he => by simp [hr.engine] at he
  dirtyFits := fun r hd => by simp [hr.dirty] at hd
  refOk := h.refOk
  snapRefOk := fun hb => absurd hr.engine (s.busy_iff.mp hb)
  progress := by simp [ProgressSound, hr.progress, hr.engine, hr.pend]

theorem inv_finish (h : StorageSound s) : s.finish.Inv :=
  inv_of_rest (s := s.finish) { h with } s.succeeded_finish.rest (by simp) (by simp) (by simp) (by simp)

/-- An error completion leaves the result registers as START cleared them (R206). -/
theorem inv_raiseError (h : StorageSound s) (hz : ResultsZero s) {c : ErrCode}
    (hc : c ≠ .keysizeTooLarge) : (s.raiseError c).Inv :=
  inv_of_rest (s := s.raiseError c) { h with } (s.failed_raiseError c).rest
    (by simp) (by simp) (fun _ => ⟨c, hc, rfl⟩) (fun _ => hz)

theorem inv_clearRegisters (h : StorageSound s) : s.clearRegisters.Inv :=
  inv_of_rest (s := s.clearRegisters) { h with refOk := fun hv => nomatch hv } ⟨rfl, rfl, rfl, rfl⟩
    nofun (fun _ => rfl) nofun nofun

end StorageSound

/-- SRST keeps the invariant: the region that it scrambles is in range (R70, R241). -/
theorem State.Inv.softReset {s : State} (h : s.Inv) : s.softReset.Inv := by
  have habort : StorageSound s.abort := by
    unfold State.abort
    split
    · next r hd =>
      split
      · exact h.storage.scramble (h.dirtyFits r hd)
      · exact h.storage
    · exact h.storage
  exact habort.inv_clearRegisters

theorem State.Inv.powerOn {s : State} (h : s.Inv) : s.powerOn.Inv :=
  StorageSound.inv_of_rest (s := s.powerOn)
    { bufSize := h.bufSize
      memCanonical := by simp [State.powerOn, Memory.wf]
      memBounded := by simp [State.powerOn]
      refOk := nofun }
    ⟨rfl, rfl, rfl, rfl⟩ nofun (fun _ => rfl) nofun nofun

/-- Settles O56: the state after reset is at rest, with an empty scratchpad and no REF. -/
theorem invariantHoldsAtReset : Obligations.InvariantHoldsAtReset :=
  StorageSound.inv_of_rest (s := State.reset)
    { bufSize := by decide
      memCanonical := by decide
      memBounded := nofun
      refOk := nofun }
    ⟨rfl, rfl, rfl, rfl⟩ nofun (fun _ => rfl) nofun nofun

/-! ## Commands that end in one engine step -/

theorem State.length_candidatePlains_getD_le (s : State) (j : Nat) :
    (s.candidatePlains.getD j []).length ≤ s.arg 3 := by
  simp only [State.candidatePlains, List.getD_eq_getElem?_getD, List.getElem?_map]
  cases s.descEntries[j]? <;> simp [State.argRegion]

theorem State.length_lineResults_getD_le (s : State) (j : Nat) (k : Byte) (x : F64) :
    (s.lineResults.getD j { key := k, score := x, plain := [] }).plain.length
      ≤ maxLen s.descEntries := by
  simp only [State.lineResults, List.getD_eq_getElem?_getD, List.getElem?_map]
  cases hr : s.descEntries[j]? with
  | none => simp
  | some r => simpa using len_le_maxLen _ r (List.mem_of_getElem? hr)

/-- A write of at most as many bytes as the output region of a valid command has is in range. -/
theorem StorageSound.memWrite_output {i : Instr} {s : State} {j : Fin 8} {n : Nat} {bs : List Byte}
    (h : StorageSound s) (hv : firstFailure (validation i s) = none)
    (hr : outputRegion i s = some (s.argSized j n)) (hb : bs.length ≤ n) :
    StorageSound (s.memWrite (s.arg j) bs) := by
  have hfit : s.arg j + n ≤ s.bufSize := outputRegion_fits i s _ hv hr
  exact h.memWrite (by omega)

/-- Past its checks, a command that sends no oracle request completes with the invariant. -/
theorem StorageSound.inv_commandBody {i : Instr} {s : State} (h : StorageSound s)
    (hv : firstFailure (validation i s) = none) (he : i ≠ .cbcenc) (hd : i ≠ .cbcdec) :
    (commandBody i s).Inv := by
  cases i with
  | xor =>
    exact ((h.memWrite_output hv rfl (by simp [State.argRegion])).setResLen _).inv_finish
  | rxor =>
    exact ((h.memWrite_output hv rfl (by simp [State.argRegion])).setResLen _).inv_finish
  | hist => exact ((h.memWrite_output hv rfl (by simp [histLen])).setResLen _).inv_finish
  | relfreq => exact ((h.memWrite_output hv rfl (by simp [freqLen])).setResLen _).inv_finish
  | bcoef => exact (h.setResScore _).inv_finish
  | score => exact ((h.setResScore _).setResLen _).inv_finish
  | ldref =>
    have hok := (s.tableOk_iff _).mp ((ldrefChecks_none_iff s).mp hv).2
    exact (h.loadRef hok).inv_finish
  | xscore =>
    exact (((h.memWrite_output hv rfl (by simp [State.argRegion])).setResScore _).setResLen
      _).inv_finish
  | bestxor =>
    exact ((((h.memWrite_output hv rfl (s.length_candidatePlains_getD_le _)).setResIdx
      _).setResScore _).setResLen _).inv_finish
  | sbxor =>
    exact ((((h.memWrite_output hv rfl (by simp [State.argRegion])).setResKey _).setResScore
      _).setResLen _).inv_finish
  | detect =>
    exact (((((h.memWrite_output hv rfl (s.length_lineResults_getD_le _ _ _)).setResIdx
      _).setResKey _).setResScore _).setResLen _).inv_finish
  | pad => exact ((h.memWrite_output hv rfl (by simp [State.argRegion])).setResLen _).inv_finish
  | unpad =>
    have hpos := ((unpadChecks_none_iff s).mp hv).1
    refine ((h.memWrite_output hv rfl ?_).setResLen _).inv_finish
    rw [unpadBytes_length, s.unpadByte_eq hpos]
    simp [State.argRegion]
  | cbcenc => exact absurd rfl he
  | cbcdec => exact absurd rfl hd

/-! ## What the invariant reads -/

theorem CbcSound.congr {s t : State} {l : CbcLocals} (h : CbcSound s l) (hsnap : t.snap = s.snap)
    (hdirty : t.dirty = s.dirty) : CbcSound t l := by
  obtain ⟨hc, hb, hp, hw, hi, hd⟩ := h
  constructor <;>
    simpa only [State.fetch, State.blkLen, State.argSized, State.arg, hsnap, hdirty]

theorem ProgressSound.congr {s t : State} (h : ProgressSound s) (hengine : t.engine = s.engine)
    (hsnap : t.snap = s.snap) (hpend : t.pend = s.pend) (hdirty : t.dirty = s.dirty)
    (hprogress : t.progress = s.progress) : ProgressSound t := by
  have hblk : t.blkLen = s.blkLen := by simp only [State.blkLen, hsnap]
  unfold ProgressSound at h ⊢
  rw [hprogress, hengine, hpend, hblk]
  split at h
  · exact h
  · obtain ⟨he, hl, hr⟩ := h
    exact ⟨he, hl.congr hsnap hdirty, hr⟩
  · obtain ⟨he, hl, hr⟩ := h
    exact ⟨he, hl.congr hsnap hdirty, hr⟩

/-- CFG, INTEN, CMD, BLKSZ, ARG0..ARG7, the inputs, the host's response and the number of draws take no
part in the invariant. -/
theorem State.Inv.withHostFields {s : State} (h : s.Inv) (sym ie : Bool) (cmd : Word) (blksz : Byte)
    (args : Vector Word 8) (inputs : List Input) (hostResp : Option HostResp) (draws : Nat) :
    State.Inv { s with
      sym := sym, ie := ie, cmd := cmd, blksz := blksz, args := args, inputs := inputs,
      hostResp := hostResp, draws := draws } :=
  { h with progress := h.progress.congr rfl rfl rfl rfl rfl }

/-! ## A running command -/

namespace State.Inv

variable {s : State}

theorem resultsZero (h : s.Inv) (hrun : s.engine = .run) : ResultsZero s :=
  h.resultsClear (.inl (s.busy_iff.mpr (by simp [hrun])))

theorem raiseError (h : s.Inv) (hrun : s.engine = .run) {c : ErrCode} (hc : c ≠ .keysizeTooLarge) :
    (s.raiseError c).Inv := h.storage.inv_raiseError (h.resultsZero hrun) hc

/-- A guarded body keeps the invariant if the body does where the checks pass. -/
theorem guarded (h : s.Inv) (hrun : s.engine = .run) {i : Instr} {body : State}
    (hbody : firstFailure (validation i s) = none → body.Inv) :
    (s.guarded (validation i s) body).Inv := by
  rcases s.guarded_cases (validation i s) body with ⟨e, hf, hg⟩ | ⟨hf, hg⟩
  · obtain ⟨c, hc, -, rfl⟩ := firstFailure_eq_some _ _ hf
    rw [hg]
    exact h.raiseError hrun (validation_code i s c hc)
  · rw [hg]
    exact hbody hf

/-- A scratchpad write in range keeps the invariant, but for a command that has only just started:
there DIRTY is a function of the scratchpad. -/
theorem memWrite (h : s.Inv) {a : Nat} {bs : List Byte} (hb : a + bs.length ≤ s.bufSize)
    (hfresh : s.engine = .run → s.progress ≠ .fresh) : (s.memWrite a bs).Inv :=
  have hw := h.storage.memWrite hb
  { h with
    memCanonical := hw.memCanonical
    memBounded := hw.memBounded
    dirtyOutput := fun hrun hp => absurd hp (hfresh hrun)
    progress := h.progress.congr rfl rfl rfl rfl rfl }

/-- The engine's request keeps the invariant (R182). -/
theorem ecbRequest (h : s.Inv) (hrun : s.engine = .run) {l : CbcLocals} (hl : CbcSound s l)
    (d : EcbDir) {x : List Byte} (hx : x.length = s.blkLen) : (s.ecbRequest d l x).Inv :=
  have hbusy : s.busy = true := s.busy_iff.mpr (by simp [hrun])
  { h with
    busyClear := fun _ => h.busyClear hbusy
    resultsClear := fun _ => h.resultsClear (.inl hbusy)
    idleQuiet := nofun
    dirtyOutput := nofun
    snapRefOk := fun _ => h.snapRefOk hbusy
    progress := ⟨rfl, { hl with }, _, rfl, rfl, hx⟩ }

/-- The oracle's answer to the outstanding request keeps the invariant (R181, R182). -/
theorem ecbAnswer (h : s.Inv) (hwait : s.engine = .waitEcb) {a : EcbAnswer}
    (ha : ∀ y, a = .ok y → y.length = s.blkLen) : (s.ecbAnswer a).Inv := by
  have hbusy : s.busy = true := s.busy_iff.mpr (by simp [hwait])
  have hsound := h.progress
  unfold ProgressSound at hsound
  split at hsound
  · exact absurd hwait hsound.1
  · next l hp =>
    have hp' : (s.ecbAnswer a).progress = .answered l a := by simp [State.ecbAnswer, hp]
    obtain ⟨-, hl, -⟩ := hsound
    exact { h with
      busyClear := fun _ => h.busyClear hbusy
      resultsClear := fun _ => h.resultsClear (.inl hbusy)
      idleQuiet := nofun
      dirtyOutput := fun _ hf => by simp [hp'] at hf
      snapRefOk := fun _ => h.snapRefOk hbusy
      progress := by
        simp only [ProgressSound, hp']
        exact ⟨rfl, { hl with }, rfl, ha⟩ }
  · next l b hp => simp [hwait] at hsound

/-- What the invariant says of a running command whose request has been answered. -/
theorem answered (h : s.Inv) {l : CbcLocals} {a : EcbAnswer} (hp : s.progress = .answered l a) :
    CbcSound s l ∧ ∀ y, a = .ok y → y.length = s.blkLen := by
  have hsound := h.progress
  simp only [ProgressSound, hp] at hsound
  obtain ⟨-, hl, -, hy⟩ := hsound
  exact ⟨hl, hy⟩

end State.Inv

/-! ## CBCENC and CBCDEC -/

namespace CbcSound

variable {s : State} {l : CbcLocals}

/-- Where the loop of a CBC command goes on, its next block is whole. -/
theorem next_block_le (h : CbcSound s l) (hmore : (l.block + 1) * s.blkLen < l.data.length) :
    (l.block + 1 + 1) * s.blkLen ≤ l.data.length := by
  obtain ⟨k, hk⟩ := h.whole
  rw [hk, Nat.mul_comm s.blkLen] at hmore ⊢
  exact Nat.mul_le_mul_right _ (Nat.lt_of_mul_lt_mul_right hmore)

/-- The loop's locals for the next block. -/
theorem next (h : CbcSound s l) (hmore : (l.block + 1) * s.blkLen < l.data.length)
    {prev : List Byte} (hprev : prev.length = s.blkLen) :
    CbcSound s { l with prev := prev, block := l.block + 1 } :=
  { h with prevBlock := hprev, inside := h.next_block_le hmore }

theorem length_blk (h : CbcSound s l) : (blk l.data s.blkLen l.block).length = s.blkLen :=
  blk_length _ _ _ h.inside

end CbcSound

namespace State.Inv

variable {s : State} {l : CbcLocals}

/-- The write of an answered block lies in DIRTY, so it keeps the invariant. -/
theorem memWrite_block (h : s.Inv) (hl : CbcSound s l) (hp : s.progress ≠ .fresh) {bs : List Byte}
    (hb : bs.length = s.blkLen) : (s.memWrite (s.arg 6 + l.block * s.blkLen) bs).Inv := by
  have hfit : s.arg 6 + l.data.length ≤ s.bufSize := h.dirtyFits _ hl.dirty
  have hin := hl.inside
  rw [Nat.succ_mul] at hin
  exact h.memWrite (by omega) (fun _ => hp)

theorem ecbFailed (h : s.Inv) (hrun : s.engine = .run) (hl : CbcSound s l) :
    (s.ecbFailed l).Inv :=
  (h.storage.scramble (h.dirtyFits _ hl.dirty)).inv_raiseError (h.resultsZero hrun) (by decide)

/-- DIRTY of a valid command that has only just started is its output region. -/
theorem dirty_of_valid (h : s.Inv) (hrun : s.engine = .run) (hp : s.progress = .fresh) {i : Instr}
    (hf : s.fetch = .ok i) (hv : firstFailure (validation i s) = none) :
    s.dirty = outputRegion i s :=
  (h.dirtyOutput hrun hp).trans (s.runningOutput_of_valid i hf hv)

/-- CBCENC's first request (R184). -/
theorem cbcencStart (h : s.Inv) (hrun : s.engine = .run) (hp : s.progress = .fresh)
    (hf : s.fetch = .ok .cbcenc) (hv : firstFailure (validation .cbcenc s) = none) :
    (cbcencStart s).Inv := by
  obtain ⟨hblk, hiv, -⟩ := (cbcencChecks_none_iff s).mp hv
  have hdirty := h.dirty_of_valid hrun hp hf hv
  have hsame : { s with dirty := outputRegion .cbcenc s } = s := by rw [← hdirty]
  have hpos := padLen_pos (s.arg 1) s.blkLen hblk
  have hwhole := dvd_padBytes_length (s.readRegion (s.argRegion 0 1)) s.blkLen hblk
  have hl : CbcSound s
      { data := padBytes (s.readRegion (s.argRegion 0 1)) s.blkLen,
        key := s.readRegion (s.argRegion 2 3), prev := s.readRegion (s.argRegion 4 5),
        block := 0 } :=
    { command := .inl hf
      blkPos := hblk
      prevBlock := by simp [State.argRegion, hiv]
      whole := hwhole
      inside := by
        rw [Nat.zero_add, Nat.one_mul]
        exact Nat.le_of_dvd (by simp [State.argRegion]; omega) hwhole
      dirty := by simp [hdirty, outputRegion, State.argRegion] }
  simp only [Machine.cbcencStart, hsame]
  exact h.ecbRequest hrun hl .enc (by simp [hl.length_blk, hl.prevBlock])

/-- CBCDEC's first request (R185). -/
theorem cbcdecStart (h : s.Inv) (hrun : s.engine = .run) (hp : s.progress = .fresh)
    (hf : s.fetch = .ok .cbcdec) (hv : firstFailure (validation .cbcdec s) = none) :
    (cbcdecStart s).Inv := by
  obtain ⟨hblk, hiv, hmod, hlen, -⟩ := (cbcdecChecks_none_iff s).mp hv
  have hdirty := h.dirty_of_valid hrun hp hf hv
  have hsame : { s with dirty := outputRegion .cbcdec s } = s := by rw [← hdirty]
  have hwhole : s.blkLen ∣ s.arg 1 := Nat.dvd_of_mod_eq_zero hmod
  have hl : CbcSound s
      { data := s.readRegion (s.argRegion 0 1), key := s.readRegion (s.argRegion 2 3),
        prev := s.readRegion (s.argRegion 4 5), block := 0 } :=
    { command := .inr hf
      blkPos := hblk
      prevBlock := by simp [State.argRegion, hiv]
      whole := by simpa [State.argRegion] using hwhole
      inside := by simpa [State.argRegion] using Nat.le_of_dvd hlen hwhole
      dirty := by simp [hdirty, outputRegion, State.argRegion, State.argSized] }
  simp only [Machine.cbcdecStart, hsame]
  exact h.ecbRequest hrun hl .dec hl.length_blk

/-- CBCENC after an answer: the write, then the next request or the end (R184). -/
theorem cbcencNext (h : s.Inv) (hrun : s.engine = .run) (hp : s.progress ≠ .fresh)
    (hl : CbcSound s l) {c : List Byte} (hc : c.length = s.blkLen) : (cbcencNext s l c).Inv := by
  have hw := h.memWrite_block hl hp hc
  unfold Machine.cbcencNext
  split
  · next hmore =>
    have hn := (hl.next hmore hc).congr (t := s.memWrite (s.arg 6 + l.block * s.blkLen) c) rfl rfl
    exact hw.ecbRequest hrun hn .enc (by rw [xorBytes_length, hn.length_blk, hn.prevBlock, min_self])
  · exact (hw.storage.setResLen _).inv_finish

/-- CBCDEC after its last write: the error or the end (R185). -/
theorem cbcdecEnd (h : s.Inv) (hrun : s.engine = .run) (n : Nat) : (cbcdecEnd s n).Inv := by
  simp only [Machine.cbcdecEnd]
  split
  · exact h.raiseError hrun (by decide)
  · exact (h.storage.setResLen _).inv_finish

/-- CBCDEC after an answer: the write, then the next request or the end (R185). -/
theorem cbcdecNext (h : s.Inv) (hrun : s.engine = .run) (hp : s.progress ≠ .fresh)
    (hl : CbcSound s l) {y : List Byte} (hy : y.length = s.blkLen) : (cbcdecNext s l y).Inv := by
  have hx : (xorBytes y l.prev).length = s.blkLen := by simp [hy, hl.prevBlock]
  have hw := h.memWrite_block hl hp hx
  unfold Machine.cbcdecNext
  split
  · next hmore =>
    have hn := (hl.next hmore hl.length_blk).congr
      (t := s.memWrite (s.arg 6 + l.block * s.blkLen) (xorBytes y l.prev)) rfl rfl
    exact hw.ecbRequest hrun hn .dec hn.length_blk
  · exact hw.cbcdecEnd hrun _

/-! ## The engine's turn -/

/-- A command that has only just started. -/
theorem commandBody (h : s.Inv) (hrun : s.engine = .run) (hp : s.progress = .fresh) {i : Instr}
    (hf : s.fetch = .ok i) (hv : firstFailure (validation i s) = none) :
    (commandBody i s).Inv := by
  by_cases he : i = .cbcenc
  · subst he
    exact h.cbcencStart hrun hp hf hv
  by_cases hd : i = .cbcdec
  · subst hd
    exact h.cbcdecStart hrun hp hf hv
  exact h.storage.inv_commandBody hv he hd

/-- A turn of the engine on a legal command. -/
theorem exec {t : State} (h : s.Inv) (hrun : s.engine = .run) {i : Instr} (hf : s.fetch = .ok i)
    (hx : exec i s = .next t) : t.Inv := by
  cases hp : s.progress with
  | fresh =>
    rw [exec_fresh i s hp] at hx
    cases hx
    exact h.guarded hrun (h.commandBody hrun hp hf)
  | waiting l =>
    have hsound := h.progress
    simp [ProgressSound, hp, hrun] at hsound
  | answered l a =>
    obtain ⟨hl, hy⟩ := h.answered hp
    have hne : s.progress ≠ .fresh := by simp [hp]
    rcases hl.command with hc | hc <;> cases hf.symm.trans hc
    · cases a <;> simp only [Machine.exec, execCbcenc, hp] at hx <;> cases hx
      · exact h.cbcencNext hrun hne hl (hy _ rfl)
      · exact h.ecbFailed hrun hl
    · cases a <;> simp only [Machine.exec, execCbcdec, hp] at hx <;> cases hx
      · exact h.cbcdecNext hrun hne hl (hy _ rfl)
      · exact h.ecbFailed hrun hl

theorem engineStep {t : State} (h : s.Inv) (hx : engineStep s = .next t) : t.Inv := by
  rcases engineStep_cases s t hx with ⟨-, rfl⟩ | ⟨hrun, -, rfl⟩ | ⟨hrun, i, hf, hexec⟩
  · exact h
  · exact h.raiseError hrun (by decide)
  · exact h.exec hrun hf hexec

theorem oracleStep {t : State} (h : s.Inv) {n : Nat} {a : EcbAnswer}
    (hx : oracleStep n a s = .next t) : t.Inv := by
  rcases oracleStep_cases n a s t hx with ⟨-, rfl⟩ | ⟨hwait, -, ha, rfl⟩
  · exact h
  · exact h.ecbAnswer hwait ha

/-! ## The host's accesses -/

theorem unlessBusy {t : State} (h : s.Inv) (ht : s.engine = .idle → t.Inv) :
    (s.unlessBusy t).Inv := by
  unfold State.unlessBusy
  split
  · exact h
  · next hb => exact ht (by simpa [State.busy] using hb)

theorem clearDone (h : s.Inv) (hidle : s.engine = .idle) : s.clearDone.Inv :=
  have hbusy : s.busy ≠ true := fun hb => s.busy_iff.mp hb hidle
  { h with
    errDone := nofun
    codeZero := fun _ => rfl
    codeListed := nofun
    busyClear := fun hb => absurd hb hbusy
    resultsClear
      | .inl hb => absurd hb hbusy
      | .inr he => nomatch he
    progress := h.progress.congr rfl rfl rfl rfl rfl }

/-- START keeps the invariant: DIRTY is in range whatever the operands are (R30, R70). -/
theorem start (h : s.Inv) : s.start.Inv :=
  { h with
    errDone := nofun
    codeZero := fun _ => rfl
    codeListed := nofun
    busyClear := fun _ => ⟨rfl, rfl⟩
    resultsClear := fun _ => ⟨rfl, rfl, rfl, rfl⟩
    idleQuiet := nofun
    dirtyOutput := fun _ _ => rfl
    dirtyFits := fun r hr => s.startBase.runningOutput_fits r hr
    snapRefOk := fun _ => h.refOk
    progress := ⟨nofun, rfl⟩ }

theorem writeCtrl (h : s.Inv) (v : Word) : (s.writeCtrl v).Inv := by
  unfold State.writeCtrl
  split
  · exact h.softReset
  · split
    · exact h.unlessBusy fun _ => h.start
    · exact h

theorem writeReg (h : s.Inv) (v : Word) (r : Reg) : (s.writeReg v r).Inv := by
  cases r with
  | cfg => exact h.unlessBusy fun _ => h.withHostFields _ _ _ _ _ _ _ _
  | ctrl => exact h.writeCtrl v
  | status =>
    refine h.unlessBusy fun hidle => ?_
    split
    · exact h.clearDone hidle
    · exact h
  | inten => exact h.withHostFields _ _ _ _ _ _ _ _
  | cmd => exact h.unlessBusy fun _ => h.withHostFields _ _ _ _ _ _ _ _
  | blksz => exact h.unlessBusy fun _ => h.withHostFields _ _ _ _ _ _ _ _
  | arg i => exact h.unlessBusy fun _ => h.withHostFields _ _ _ _ _ _ _ _
  | _ => exact h


end State.Inv

/-- An access of `n` bytes to the scratchpad lies inside it (R64, R65). -/
theorem State.add_le_of_target_sp {s : State} {off n a : Nat} (h : s.target off n = .sp a) :
    a + n ≤ s.bufSize := by
  unfold State.target at h
  split at h
  · split at h <;> cases h
  · split at h
    · cases h
    · split at h
      · next hin =>
        rw [← Target.sp.inj h]
        exact hin.2
      · cases h

namespace State.Inv

variable {s : State}

theorem hostRead (h : s.Inv) (off : Word) (w : Width) : (hostRead off w s).Inv := by
  unfold Machine.hostRead
  split
  · exact h.withHostFields _ _ _ _ _ _ _ _
  · exact h.withHostFields _ _ _ _ _ _ _ _
  · exact h.withHostFields _ _ _ _ _ _ _ _

theorem hostWrite (h : s.Inv) (off : Word) (w : Width) (v : Word) : (hostWrite off w v s).Inv := by
  unfold Machine.hostWrite
  split
  · next r _ => exact (h.writeReg v r).withHostFields _ _ _ _ _ _ _ _
  · next a ha =>
    have hfit : a + (leBytes w.bytes v.toNat).length ≤ s.bufSize := by
      simpa using State.add_le_of_target_sp ha
    have hw := h.unlessBusy fun hidle => h.memWrite hfit fun hrun => by simp [hidle] at hrun
    exact hw.withHostFields _ _ _ _ _ _ _ _
  · exact h.withHostFields _ _ _ _ _ _ _ _

theorem hostPoll (h : s.Inv) : (hostPoll s).Inv := by
  have hread := h.hostRead 0x00C .word
  simp only [Machine.hostPoll]
  split
  · exact hread
  · exact hread.withHostFields _ _ _ _ _ _ _ _

/-! ## Every step -/

theorem inputStep {t : State} (h : s.Inv) {e : Input} (hx : inputStep e s = .next t) : t.Inv := by
  cases e with
  | hostRead off w => cases hx; exact h.hostRead off w
  | hostWrite off w v => cases hx; exact h.hostWrite off w v
  | hostWait => cases hx; exact h.hostPoll
  | engine => exact h.engineStep hx
  | oracle n a => exact h.oracleStep hx
  | powerOn => cases hx; exact h.powerOn

theorem step {t : State} (h : s.Inv) (hx : step s = .next t) : t.Inv := by
  rcases step_cases s t hx with ⟨-, hengine⟩ | ⟨e, rest, -, hinput⟩
  · exact h.engineStep hengine
  · exact (h.withHostFields _ _ _ _ _ rest _ _).inputStep hinput

end State.Inv

/-- Settles O57: a step is a turn of the engine or an input, and each of them keeps the invariant. -/
theorem everyStepKeepsTheInvariant : Obligations.EveryStepKeepsTheInvariant :=
  fun _ _ h hx => h.step hx

end Sys2Proof.Machine
end

section
/-! PROOF. Rounding to nearest, ties to even (R15, F2; IEEE 754). The values of the magnitude codes rise
strictly (`magUnits_strictMono`), and both roundings take one of the two codes between which the exact
value lies (`RoundsTo`); that the result is nearest among all codes, and where it overflows, follows from
that alone, for any strictly rising scale `g` on which exact values are compared. -/

namespace Sys2Proof.Machine

/-! ## The values of magnitude codes -/

/-- The value of a magnitude code in units of 2^-1074, as if exponents had no end. -/
def magUnits (m : Nat) : Nat :=
  if m / 2 ^ 52 = 0 then m % 2 ^ 52 else (2 ^ 52 + m % 2 ^ 52) * 2 ^ (m / 2 ^ 52 - 1)

theorem f64Scaled_eq (x : F64) : f64Scaled x = magUnits (f64Mag x) := rfl

theorem f64Mag_pack {m : Nat} (h : m < 2 ^ 63) : f64Mag (f64Pack false m) = m := by
  simp only [f64Mag, f64Pack, BitVec.toNat_ofNat, Bool.false_eq_true, if_false]
  omega

theorem f64Sign_pack {m : Nat} (h : m < 2 ^ 63) : f64Sign (f64Pack false m) = false := by
  simp only [f64Sign, f64Pack, BitVec.getLsbD_ofNat, Bool.false_eq_true, if_false, Nat.zero_add,
    Nat.testBit_lt_two_pow h, Bool.and_false]

theorem f64Scaled_pack {m : Nat} (h : m < infMag) : f64Scaled (f64Pack false m) = magUnits m := by
  rw [f64Scaled_eq, f64Mag_pack (h.trans (by decide))]

/-- A significand of at most 53 bits, in the exponent of `shift`, has the value that it says. A
significand of 2^53 is the least of the next exponent. -/
theorem magUnits_code {shift f : Nat} (hf : f ≤ 2 ^ 53) (hs : shift = 0 ∨ 2 ^ 52 ≤ f) :
    magUnits (shift * 2 ^ 52 + f) = f * 2 ^ shift := by
  rcases Nat.lt_or_ge f (2 ^ 52) with hlow | hnormal
  · obtain rfl : shift = 0 := by omega
    have hd : (0 * 2 ^ 52 + f) / 2 ^ 52 = 0 := by omega
    have hm : (0 * 2 ^ 52 + f) % 2 ^ 52 = f := by omega
    simp only [magUnits, hd, hm, if_true, pow_zero, Nat.mul_one]
  · rcases Nat.lt_or_ge f (2 ^ 53) with hlt | hcarry
    · have hd : (shift * 2 ^ 52 + f) / 2 ^ 52 = shift + 1 := by omega
      have hm : 2 ^ 52 + (shift * 2 ^ 52 + f) % 2 ^ 52 = f := by omega
      rw [magUnits, hd, hm, if_neg (Nat.succ_ne_zero _), Nat.add_sub_cancel]
    · obtain rfl : f = 2 ^ 53 := by omega
      have hd : (shift * 2 ^ 52 + 2 ^ 53) / 2 ^ 52 = shift + 1 + 1 := by omega
      have hm : (shift * 2 ^ 52 + 2 ^ 53) % 2 ^ 52 = 0 := by omega
      rw [magUnits, hd, hm, if_neg (Nat.succ_ne_zero _), Nat.add_sub_cancel, pow_succ 2 shift]
      ring

/-- Every magnitude code is a significand in an exponent. -/
theorem exists_code (m : Nat) :
    ∃ shift f, m = shift * 2 ^ 52 + f ∧ f < 2 ^ 53 ∧ (shift = 0 ∨ 2 ^ 52 ≤ f) := by
  rcases Nat.lt_or_ge m (2 ^ 53) with h | h
  · exact ⟨0, m, by omega, h, .inl rfl⟩
  · exact ⟨m / 2 ^ 52 - 1, 2 ^ 52 + m % 2 ^ 52, by omega, by omega, .inr (by omega)⟩

theorem magUnits_strictMono : StrictMono magUnits := by
  refine strictMono_nat_of_lt_succ fun m => ?_
  obtain ⟨shift, f, rfl, hf, hs⟩ := exists_code m
  rw [magUnits_code hf.le hs, Nat.add_assoc, magUnits_code hf (by omega)]
  exact Nat.mul_lt_mul_of_pos_right (Nat.lt_add_one f) (by positivity)

/-! ## Rounding to one of two neighbours -/

/-- `r` is the one of the two neighbouring codes `c` and `c + 1` that is nearest to an exact value, the
even one where both are. On the rising scale `g` of sums of two values, twice the exact value is `n`. -/
structure RoundsTo (g : Nat → Nat) (n c r : Nat) : Prop where
  lower : g (magUnits c + magUnits c) ≤ n
  upper : n < g (magUnits (c + 1) + magUnits (c + 1))
  choice : r = c ∧ n ≤ g (magUnits c + magUnits (c + 1)) ∨
    r = c + 1 ∧ g (magUnits c + magUnits (c + 1)) ≤ n
  tie : n = g (magUnits c + magUnits (c + 1)) → r % 2 = 0

namespace RoundsTo

variable {g : Nat → Nat} {n c r : Nat}

/-- No code is nearer to the exact value than the rounded one: no midpoint lies between the two. -/
theorem nearest (h : RoundsTo g n c r) (hg : StrictMono g) {m : Nat} (hm : m ≠ r) :
    (magUnits r < magUnits m ∧ n ≤ g (magUnits r + magUnits m) ∨
      magUnits m < magUnits r ∧ g (magUnits r + magUnits m) ≤ n) ∧
    (n = g (magUnits r + magUnits m) → r % 2 = 0) := by
  have hmono := magUnits_strictMono
  obtain ⟨hlower, hupper, hchoice, htie⟩ := h
  rcases hchoice with ⟨rfl, hn⟩ | ⟨rfl, hn⟩
  · rcases Nat.lt_or_gt_of_ne hm with hlt | hgt
    · have hv := hmono hlt
      have := hg (show magUnits r + magUnits m < magUnits r + magUnits r by omega)
      exact ⟨.inr ⟨hv, by omega⟩, fun he => by omega⟩
    · have hv := hmono hgt
      have hnext := hmono.monotone (show r + 1 ≤ m from hgt)
      have := hg.monotone (show magUnits r + magUnits (r + 1) ≤ magUnits r + magUnits m by omega)
      exact ⟨.inl ⟨hv, by omega⟩, fun he => htie (by omega)⟩
  · rcases Nat.lt_or_gt_of_ne hm with hlt | hgt
    · have hv := hmono hlt
      have hprev := hmono.monotone (show m ≤ c by omega)
      have := hg.monotone
        (show magUnits (c + 1) + magUnits m ≤ magUnits c + magUnits (c + 1) by omega)
      exact ⟨.inr ⟨hv, by omega⟩, fun he => htie (by omega)⟩
    · have hv := hmono hgt
      have := hg (show magUnits (c + 1) + magUnits (c + 1) < magUnits (c + 1) + magUnits m by omega)
      exact ⟨.inl ⟨hv, by omega⟩, fun he => by omega⟩

/-- The rounded code reaches a given even code exactly from the midpoint below it on. -/
theorem le_iff (h : RoundsTo g n c r) (hg : StrictMono g) {k : Nat} (hk : (k + 1) % 2 = 0) :
    k + 1 ≤ r ↔ g (magUnits k + magUnits (k + 1)) ≤ n := by
  have hmono := magUnits_strictMono
  obtain ⟨hlower, hupper, hchoice, htie⟩ := h
  rcases Nat.lt_trichotomy c k with hlt | rfl | hgt
  · have h1 := hmono.monotone (show c + 1 ≤ k from hlt)
    have h2 := hmono (Nat.lt_add_one k)
    have := hg (show magUnits (c + 1) + magUnits (c + 1) < magUnits k + magUnits (k + 1) by omega)
    omega
  · omega
  · have h1 := hmono.monotone (show k + 1 ≤ c from hgt)
    have h2 := hmono (Nat.lt_add_one k)
    have := hg (show magUnits k + magUnits (k + 1) < magUnits c + magUnits c by omega)
    omega

end RoundsTo

/-- Twice the bound of overflow is the sum of the greatest finite value and the next one. -/
theorem magUnits_max_add :
    magUnits (infMag - 1) + magUnits (infMag - 1 + 1) = 2 * ((2 ^ 54 - 1) * 2 ^ 2044) := by
  have hmax : infMag - 1 = 2045 * 2 ^ 52 + (2 ^ 53 - 1) := by decide
  have hinf : infMag - 1 + 1 = 2045 * 2 ^ 52 + 2 ^ 53 := by decide
  rw [hinf, hmax, magUnits_code (by omega) (by omega), magUnits_code le_rfl (by omega),
    pow_succ 2 2044]
  generalize 2 ^ 2044 = x
  omega

/-- F2: the result is infinity exactly from half a unit above the greatest finite value on. -/
theorem RoundsTo.infMag_le_iff {g : Nat → Nat} {n c r : Nat} (h : RoundsTo g n c r)
    (hg : StrictMono g) : infMag ≤ r ↔ g (2 * ((2 ^ 54 - 1) * 2 ^ 2044)) ≤ n := by
  rw [← magUnits_max_add]
  exact h.le_iff hg (k := infMag - 1) (by decide)

/-! ## The significand of a whole part -/

theorem div_excessBits_bounds (w : Nat) :
    w / 2 ^ excessBits w < 2 ^ 53 ∧ (excessBits w = 0 ∨ 2 ^ 52 ≤ w / 2 ^ excessBits w) := by
  unfold excessBits
  split
  · next h => simpa using h
  · next h =>
    have hw : w ≠ 0 := by omega
    have hlog : 53 ≤ w.log2 := (Nat.le_log2 hw).mpr (by omega)
    have hlow := Nat.log2_self_le hw
    have hhigh := Nat.lt_log2_self (n := w)
    have hsplit : 52 + (w.log2 - 52) = w.log2 := by omega
    refine ⟨(Nat.div_lt_iff_lt_mul (by positivity)).mpr ?_,
      .inr ((Nat.le_div_iff_mul_le (by positivity)).mpr ?_)⟩
    · rwa [← pow_add, show 53 + (w.log2 - 52) = w.log2 + 1 by omega]
    · rwa [← pow_add, hsplit]

/-- The codes next to an exact value, from its significand: `f` is the one cut off, in units of `u`, and
`sig` the rounded one. -/
theorem roundsTo_of_significand {g : Nat → Nat} {n w f u sig : Nat}
    (hf : f = w / 2 ^ excessBits w) (hu : u = 2 ^ excessBits w)
    (lower : g (2 * f * u) ≤ n) (upper : n < g (2 * (f + 1) * u))
    (choice : sig = f ∧ n ≤ g ((2 * f + 1) * u) ∨ sig = f + 1 ∧ g ((2 * f + 1) * u) ≤ n)
    (tie : n = g ((2 * f + 1) * u) → sig % 2 = 0) :
    RoundsTo g n (excessBits w * 2 ^ 52 + f) (excessBits w * 2 ^ 52 + sig) := by
  obtain ⟨hlt, hs⟩ := div_excessBits_bounds w
  rw [← hf] at hlt hs
  have hc : magUnits (excessBits w * 2 ^ 52 + f) = f * u := hu ▸ magUnits_code hlt.le hs
  have hc1 : magUnits (excessBits w * 2 ^ 52 + f + 1) = (f + 1) * u := by
    rw [Nat.add_assoc, hu, magUnits_code hlt (by omega)]
  have hmid : f * u + (f + 1) * u = (2 * f + 1) * u := by ring
  refine ⟨?_, ?_, ?_, ?_⟩
  · rwa [hc, ← Nat.two_mul, ← Nat.mul_assoc]
  · rwa [hc1, ← Nat.two_mul, ← Nat.mul_assoc]
  · rw [hc, hc1, hmid]
    omega
  · rw [hc, hc1, hmid]
    omega

theorem magOfRounded_le (shift sig : Nat) : magOfRounded shift sig ≤ infMag := Nat.min_le_right _ _

/-! ## Quotients -/

theorem strictMono_mul_left {den : Nat} (h : 0 < den) : StrictMono (den * ·) :=
  fun _ _ hab => Nat.mul_lt_mul_of_pos_left hab h

/-- What rounding of a quotient of naturals can give, and when. -/
theorem divRoundEven_cases (num den : Nat) :
    (divRoundEven num den = num / den ∧ 2 * (num % den) ≤ den ∨
      divRoundEven num den = num / den + 1 ∧ den ≤ 2 * (num % den)) ∧
    (2 * (num % den) = den → divRoundEven num den % 2 = 0) := by
  simp only [divRoundEven]
  split
  · omega
  · split
    · omega
    · omega

theorem roundRatio_spec (num : Nat) {den : Nat} (hden : 0 < den) :
    ∃ c r, RoundsTo (den * ·) (2 * num) c r ∧ roundRatio num den = min r infMag := by
  obtain ⟨u, hu⟩ : ∃ u, u = 2 ^ excessBits (num / den) := ⟨_, rfl⟩
  have hpos : 0 < den * u := by rw [hu]; positivity
  have hcutoff : num / (den * u) = num / den / 2 ^ excessBits (num / den) := by
    rw [hu, Nat.div_div_eq_div_mul]
  have hexact := Nat.div_add_mod num (den * u)
  have hlt := Nat.mod_lt num hpos
  have hcut (k : Nat) : den * (k * u) = k * (den * u) := by ring
  obtain ⟨hcase, htie⟩ := divRoundEven_cases num (den * u)
  refine ⟨_, _, roundsTo_of_significand hcutoff hu ?_ ?_ ?_ ?_,
    by rw [roundRatio, ← hu]; rfl⟩ <;>
  · simp only [hcut]
    generalize den * u = d at *
    generalize num / d = f at *
    rw [Nat.mul_comm d f] at hexact
    simp only [Nat.add_mul, Nat.mul_add, Nat.mul_assoc, Nat.one_mul]
    omega

theorem roundRatio_eq_infMag_iff {num den : Nat} (hden : 0 < den) :
    roundRatio num den = infMag ↔ den * ((2 ^ 54 - 1) * 2 ^ 2044) ≤ num := by
  obtain ⟨c, r, h, he⟩ := roundRatio_spec num hden
  rw [he, min_eq_right_iff, h.infMag_le_iff (strictMono_mul_left hden), Nat.mul_left_comm]
  exact Nat.mul_le_mul_left_iff Nat.two_pos

/-- The rounded quotient has a nearest value, in the terms of the exact quotient's numerator. -/
theorem roundRatio_nearest {num den m : Nat} (hden : 0 < den) (hr : roundRatio num den < infMag)
    (hm : m ≠ roundRatio num den) :
    (magUnits (roundRatio num den) < magUnits m ∧
        2 * num ≤ den * (magUnits (roundRatio num den) + magUnits m) ∨
      magUnits m < magUnits (roundRatio num den) ∧
        den * (magUnits (roundRatio num den) + magUnits m) ≤ 2 * num) ∧
    (2 * num = den * (magUnits (roundRatio num den) + magUnits m) →
      roundRatio num den % 2 = 0) := by
  obtain ⟨c, r, h, he⟩ := roundRatio_spec num hden
  obtain rfl : roundRatio num den = r := by omega
  exact h.nearest (strictMono_mul_left hden) hm

/-- A quotient that a finite code holds exactly rounds to that code. -/
theorem roundRatio_exact {den m : Nat} (hden : 0 < den) (hm : m < infMag) :
    roundRatio (den * magUnits m) den = m := by
  obtain ⟨c, r, h, he⟩ := roundRatio_spec (den * magUnits m) hden
  by_cases hmr : m = r
  · omega
  · obtain ⟨hside, -⟩ := h.nearest (strictMono_mul_left hden) hmr
    simp only [Nat.mul_add] at hside
    rcases hside with ⟨hv, hn⟩ | ⟨hv, hn⟩
    · have := Nat.mul_lt_mul_of_pos_left hv hden
      omega
    · have := Nat.mul_lt_mul_of_pos_left hv hden
      omega

/-! ## Square roots -/

theorem isqrt_eq_sqrt (k n : Nat) (h : n < 4 ^ k) : isqrt k n = n.sqrt := by
  induction k generalizing n with
  | zero =>
    obtain rfl : n = 0 := by omega
    rfl
  | succ k ih =>
    have hk : n / 4 < 4 ^ k := by rw [pow_succ] at h; omega
    have hle := Nat.sqrt_le (n / 4)
    have hlt := Nat.lt_succ_sqrt (n / 4)
    simp only [isqrt, ih _ hk]
    generalize (n / 4).sqrt = q at hle hlt
    have hlow : 2 * q * (2 * q) = 4 * (q * q) := by ring
    have hhigh : (2 * q + 1 + 1) * (2 * q + 1 + 1) = 4 * ((q + 1) * (q + 1)) := by ring
    rw [Nat.succ_eq_add_one] at hlt
    split
    · next hr => exact Nat.eq_sqrt.mpr ⟨hr, by omega⟩
    · next hr => exact Nat.eq_sqrt.mpr ⟨by omega, by omega⟩

theorem roundSqrt_spec (n : Nat) :
    ∃ c r, RoundsTo (· ^ 2) (4 * n) c r ∧ roundSqrt n = min r infMag := by
  have hroot : isqrt (n.log2 / 2 + 1) n = n.sqrt := by
    refine isqrt_eq_sqrt _ _ (Nat.lt_log2_self.trans_le ?_)
    rw [show (4 : Nat) = 2 ^ 2 by rfl, ← pow_mul]
    exact Nat.pow_le_pow_right (by omega) (by omega)
  obtain ⟨u, hu⟩ : ∃ u, u = 2 ^ excessBits n.sqrt := ⟨_, rfl⟩
  obtain ⟨f, hf⟩ : ∃ f, f = n.sqrt / u := ⟨_, rfl⟩
  have hpos : 0 < u := by rw [hu]; positivity
  have hlow : f * u ≤ n.sqrt := hf ▸ Nat.div_mul_le_self _ _
  have hhigh : n.sqrt + 1 ≤ (f + 1) * u := hf ▸ Nat.lt_mul_of_div_lt (Nat.lt_add_one _) hpos
  have hlow2 := (Nat.mul_le_mul hlow hlow).trans (Nat.sqrt_le n)
  have hhigh2 := (Nat.lt_succ_sqrt n).trans_le (Nat.mul_le_mul hhigh hhigh)
  refine ⟨_, _, roundsTo_of_significand (w := n.sqrt) (f := f) (u := u) (hu ▸ hf) hu ?_ ?_ ?_ ?_,
    by simp only [roundSqrt, magOfRounded, hroot, ← hu, ← hf]; rfl⟩
  · calc (2 * f * u) ^ 2 = 4 * (f * u * (f * u)) := by ring
      _ ≤ 4 * n := by omega
  · calc 4 * n < 4 * ((f + 1) * u * ((f + 1) * u)) := by omega
      _ = (2 * (f + 1) * u) ^ 2 := by ring
  · rw [pow_two]
    split_ifs <;> omega
  · rw [pow_two]
    split_ifs <;> omega

theorem strictMono_sq : StrictMono (· ^ 2 : Nat → Nat) := fun _ _ h =>
  Nat.pow_lt_pow_left h (by decide)

theorem roundSqrt_eq_infMag_iff (n : Nat) :
    roundSqrt n = infMag ↔ ((2 ^ 54 - 1) * 2 ^ 2044) ^ 2 ≤ n := by
  obtain ⟨c, r, h, he⟩ := roundSqrt_spec n
  rw [he, min_eq_right_iff, h.infMag_le_iff strictMono_sq, Nat.mul_pow]
  exact Nat.mul_le_mul_left_iff (by decide)

theorem roundSqrt_nearest {n m : Nat} (hr : roundSqrt n < infMag) (hm : m ≠ roundSqrt n) :
    (magUnits (roundSqrt n) < magUnits m ∧
        4 * n ≤ (magUnits (roundSqrt n) + magUnits m) ^ 2 ∨
      magUnits m < magUnits (roundSqrt n) ∧
        (magUnits (roundSqrt n) + magUnits m) ^ 2 ≤ 4 * n) ∧
    (4 * n = (magUnits (roundSqrt n) + magUnits m) ^ 2 → roundSqrt n % 2 = 0) := by
  obtain ⟨c, r, h, he⟩ := roundSqrt_spec n
  obtain rfl : roundSqrt n = r := by omega
  exact h.nearest strictMono_sq hm

/-! ## The operations -/

theorem f64IsNaN_of_finite {x : F64} (h : f64Mag x < infMag) : f64IsNaN x = false := by
  simp only [f64IsNaN, decide_eq_false_iff_not]
  omega

theorem f64IsInf_of_finite {x : F64} (h : f64Mag x < infMag) : f64IsInf x = false := by
  simp only [f64IsInf, decide_eq_false_iff_not]
  omega

theorem f64Sqrt_of_pos {x : F64} (hs : f64Sign x = false) (hpos : 0 < f64Mag x)
    (hfin : f64Mag x < infMag) :
    f64Sqrt x = f64Pack false (roundSqrt (f64Scaled x * 2 ^ 1074)) := by
  simp only [f64Sqrt, f64IsNaN_of_finite hfin, f64IsInf_of_finite hfin, hs, hpos.ne', if_false,
    Bool.false_eq_true]

section

variable {x y : F64}

theorem f64Add_of_nonneg (hx : f64Sign x = false) (hy : f64Sign y = false)
    (hfx : f64Mag x < infMag) (hfy : f64Mag y < infMag) :
    f64Add x y = f64Pack false (roundRatio (f64Scaled x + f64Scaled y) 1) := by
  simp only [f64Add, f64IsNaN_of_finite hfx, f64IsNaN_of_finite hfy, f64IsInf_of_finite hfx,
    f64IsInf_of_finite hfy, f64Units, hx, hy]
  rcases Nat.eq_zero_or_pos (f64Scaled x + f64Scaled y) with hzero | hpos
  · have hsum : (f64Scaled x : Int) + f64Scaled y = 0 := by omega
    have hround : roundRatio 0 1 = 0 := by decide
    simp [hsum, hzero, hround]
  · have hsum : (f64Scaled x : Int) + f64Scaled y ≠ 0 := by omega
    have hneg : ¬(f64Scaled x : Int) + f64Scaled y < 0 := by omega
    have habs : ((f64Scaled x : Int) + f64Scaled y).natAbs = f64Scaled x + f64Scaled y := by omega
    simp [hsum, hneg, habs]

theorem f64Mul_of_nonneg (hx : f64Sign x = false) (hy : f64Sign y = false)
    (hfx : f64Mag x < infMag) (hfy : f64Mag y < infMag) :
    f64Mul x y = f64Pack false (roundRatio (f64Scaled x * f64Scaled y) (2 ^ 1074)) := by
  simp only [f64Mul, f64IsNaN_of_finite hfx, f64IsNaN_of_finite hfy, f64IsInf_of_finite hfx,
    f64IsInf_of_finite hfy, hx, hy, Bool.or_self, Bool.false_eq_true, if_false, bne_self_eq_false]

theorem f64Div_of_nonneg (hx : f64Sign x = false) (hy : f64Sign y = false)
    (hfx : f64Mag x < infMag) (hfy : f64Mag y < infMag) (hpos : 0 < f64Mag y) :
    f64Div x y = f64Pack false (roundRatio (f64Scaled x * 2 ^ 1074) (f64Scaled y)) := by
  simp only [f64Div, f64IsNaN_of_finite hfx, f64IsNaN_of_finite hfy, f64IsInf_of_finite hfx,
    f64IsInf_of_finite hfy, hx, hy, hpos.ne', Bool.or_self, Bool.false_eq_true, if_false,
    bne_self_eq_false]

end

/-- Every natural number of at most 53 bits is a finite binary64 value. -/
theorem exists_magUnits_eq_nat {n : Nat} (h : n < 2 ^ 53) :
    ∃ m, m < infMag ∧ magUnits m = n * 2 ^ 1074 := by
  rcases Nat.eq_zero_or_pos n with rfl | hpos
  · exact ⟨0, by decide, by rw [Nat.zero_mul]; rfl⟩
  · have hlog : n.log2 < 53 := (Nat.log2_lt hpos.ne').mpr h
    have hlow := Nat.log2_self_le hpos.ne'
    have hhigh := Nat.lt_log2_self (n := n)
    have hf : n * 2 ^ (52 - n.log2) < 2 ^ 53 := by
      calc n * 2 ^ (52 - n.log2) < 2 ^ (n.log2 + 1) * 2 ^ (52 - n.log2) :=
            Nat.mul_lt_mul_of_pos_right hhigh (by positivity)
        _ = 2 ^ 53 := by rw [← pow_add, show n.log2 + 1 + (52 - n.log2) = 53 by omega]
    have hg : 2 ^ 52 ≤ n * 2 ^ (52 - n.log2) := by
      calc 2 ^ 52 = 2 ^ n.log2 * 2 ^ (52 - n.log2) := by
            rw [← pow_add, show n.log2 + (52 - n.log2) = 52 by omega]
        _ ≤ n * 2 ^ (52 - n.log2) := Nat.mul_le_mul_right _ hlow
    refine ⟨(1022 + n.log2) * 2 ^ 52 + n * 2 ^ (52 - n.log2), ?_, ?_⟩
    · rw [infMag]; omega
    · rw [magUnits_code hf.le (.inr hg), Nat.mul_assoc, ← pow_add,
        show 52 - n.log2 + (1022 + n.log2) = 1074 by omega]

theorem f64OfNat_exact {n : Nat} (h : n < 2 ^ 53) :
    f64Sign (f64OfNat n) = false ∧ f64Mag (f64OfNat n) < infMag ∧
      f64Scaled (f64OfNat n) = n * 2 ^ 1074 := by
  obtain ⟨m, hm, hv⟩ := exists_magUnits_eq_nat h
  have hof : f64OfNat n = f64Pack false m := by
    rw [f64OfNat, ← hv]
    simpa using congrArg (f64Pack false) (roundRatio_exact Nat.one_pos hm)
  have hm63 : m < 2 ^ 63 := hm.trans (by decide)
  rw [hof, f64Mag_pack hm63, f64Scaled_pack hm]
  exact ⟨f64Sign_pack hm63, hm, hv⟩

/-! ## The statement -/

/-- The clause on quotients: the distances to the exact value, in units of 1 / `den`. -/
theorem roundRatio_nearest_natAbs {num den m : Nat} (hden : 0 < den)
    (hr : roundRatio num den < infMag) (hm : m < infMag) :
    ((num : Int) - den * f64Scaled (f64Pack false (roundRatio num den))).natAbs
        ≤ ((num : Int) - den * f64Scaled (f64Pack false m)).natAbs ∧
      (m ≠ roundRatio num den →
        ((num : Int) - den * f64Scaled (f64Pack false (roundRatio num den))).natAbs
          = ((num : Int) - den * f64Scaled (f64Pack false m)).natAbs →
        roundRatio num den % 2 = 0) := by
  by_cases hne : m = roundRatio num den
  · subst hne
    simp
  obtain ⟨hside, htie⟩ := roundRatio_nearest hden hr hne
  rw [f64Scaled_pack hr, f64Scaled_pack hm]
  have hmul (k : Nat) : (den : Int) * k = (den * k : Nat) := by push_cast; rfl
  simp only [Nat.mul_add, hmul] at *
  rcases hside with ⟨hv, hn⟩ | ⟨hv, hn⟩
  · have := Nat.mul_lt_mul_of_pos_left hv hden
    omega
  · have := Nat.mul_lt_mul_of_pos_left hv hden
    omega

/-- Settles O19: both roundings take a neighbour of the exact value (`roundRatio_spec`,
`roundSqrt_spec`), which is nearest among all codes (`RoundsTo.nearest`). -/
theorem roundingIsNearestEven : Obligations.RoundingIsNearestEven := by
  refine ⟨fun num den hden => ⟨?_, ?_, fun hr m hm => roundRatio_nearest_natAbs hden hr hm⟩,
    fun n => ⟨?_, ?_, fun hr m a b hm hne ha hb => ?_⟩,
    fun x hs hpos hfin => f64Sqrt_of_pos hs hpos hfin,
    fun x y hx hy hfx hfy => ⟨f64Add_of_nonneg hx hy hfx hfy, f64Mul_of_nonneg hx hy hfx hfy,
      f64Div_of_nonneg hx hy hfx hfy⟩,
    fun n hn => f64OfNat_exact (hn.trans (by decide))⟩
  · exact magOfRounded_le _ _
  · exact roundRatio_eq_infMag_iff hden
  · exact magOfRounded_le _ _
  · exact roundSqrt_eq_infMag_iff n
  · rw [ha, hb, f64Scaled_pack hr, f64Scaled_pack hm]
    exact roundSqrt_nearest hr hne

end Sys2Proof.Machine
end

section
/-! PROOF. The host's register accesses (R21 to R37, R65, R66): an aligned word access below 0x1000 is a
read or a write of one register (`hostRead_reg`, `hostWrite_reg`), so each statement about an offset is
the register at that offset (`regAt`) and what `State.readReg` and `State.writeReg` do with it. -/

namespace Sys2Proof.Machine

/-! ## Aligned word accesses -/

section

variable (s : State) {off : Word}

theorem State.target_reg (hlt : off.toNat < 0x1000) (halign : off.toNat % 4 = 0) :
    s.target off.toNat Width.word.bytes = .reg (regAt off.toNat) := by
  rw [State.target, if_pos hlt, if_pos ⟨rfl, halign⟩]

theorem hostRead_reg (hlt : off.toNat < 0x1000) (halign : off.toNat % 4 = 0) :
    hostRead off .word s = { s with hostResp := some (.value (s.readReg (regAt off.toNat))) } := by
  rw [hostRead, s.target_reg hlt halign]

theorem hostWrite_reg (v : Word) (hlt : off.toNat < 0x1000) (halign : off.toNat % 4 = 0) :
    hostWrite off .word v s
      = { s.writeReg v (regAt off.toNat) with hostResp := some .ok } := by
  rw [hostWrite, s.target_reg hlt halign]

theorem hostResp_hostRead_reg (hlt : off.toNat < 0x1000) (halign : off.toNat % 4 = 0) :
    (hostRead off .word s).hostResp = some (.value (s.readReg (regAt off.toNat))) := by
  rw [hostRead_reg s hlt halign]

end

theorem State.unlessBusy_of_idle {s : State} (h : s.engine = .idle) (t : State) :
    s.unlessBusy t = t := by
  simp [State.unlessBusy, State.busy, h]

/-! ## The register at an offset -/

theorem regAt_arg {off : Nat} {i : Fin 8} (h : off = 0x020 + 4 * i.val) : regAt off = .arg i := by
  rw [regAt, if_neg (by omega), if_pos (by omega)]
  exact congrArg Reg.arg (Fin.ext (by simp only [Fin.ofNat]; omega))

theorem regAt_high {off : Nat} (hlow : 0x040 ≤ off) (hhigh : off < 0x800) :
    regAt off = highRegAt off := by
  rw [regAt, if_neg (by omega), if_neg (by omega), if_pos hhigh]

theorem regAt_ref {off : Nat} (h : 0x800 ≤ off) :
    regAt off = .refWord (Fin.ofNat 256 ((off - 0x800) / 8)) (decide (off % 8 = 4)) := by
  rw [regAt, if_neg (by omega), if_neg (by omega), if_neg (by omega)]

theorem regAt_refLow {off : Nat} {i : Fin 256} (h : off = 0x800 + 8 * i.val) :
    regAt off = .refWord i false := by
  rw [regAt_ref (by omega), decide_eq_false (by omega)]
  exact congrArg (Reg.refWord · false) (Fin.ext (by simp only [Fin.ofNat]; omega))

theorem regAt_refHigh {off : Nat} {i : Fin 256} (h : off = 0x800 + 8 * i.val + 4) :
    regAt off = .refWord i true := by
  rw [regAt_ref (by omega), decide_eq_true (by omega)]
  exact congrArg (Reg.refWord · true) (Fin.ext (by simp only [Fin.ofNat]; omega))

/-- R35: the offsets between the result registers and the REF window that name no register. -/
theorem regAt_reserved {off : Nat}
    (h : off = 0x01C ∨ off = 0x04C ∨ (0x060 ≤ off ∧ off < 0x800)) : regAt off = .reserved := by
  rcases h with rfl | rfl | ⟨hlow, hhigh⟩
  · rfl
  · rfl
  · rw [regAt_high (by omega) hhigh]
    unfold highRegAt
    split
    any_goals omega
    rfl

/-! ## Writes -/

/-- R31 to R35: no offset from 0x040 to 0x7FC holds a register that can be written. -/
theorem State.writeReg_highRegAt (s : State) (v : Word) (off : Nat) :
    s.writeReg v (highRegAt off) = s := by
  unfold highRegAt
  split <;> rfl

/-- R22, R31 to R36: ID, the reserved offset 0x01C, and all offsets from 0x040 up ignore writes. -/
theorem State.writeReg_readOnly (s : State) (v : Word) {off : Nat}
    (h : off = 0 ∨ off = 0x01C ∨ 0x040 ≤ off) : s.writeReg v (regAt off) = s := by
  rcases h with rfl | rfl | hlow
  · rfl
  · rfl
  · rcases Nat.lt_or_ge off 0x800 with hhigh | href
    · rw [regAt_high hlow hhigh, s.writeReg_highRegAt]
    · rw [regAt_ref href]
      rfl

/-- Settles O46: STATUS is written through `State.clearDone`, which clears the three fields at once. -/
theorem clearDoneClearsTheThreeFields : Obligations.ClearDoneClearsTheThreeFields := by
  intro s v hidle
  have hwrite : hostWrite 0x00C .word v s
      = { (if v.getLsbD 1 then s.clearDone else s) with hostResp := some .ok } := by
    rw [hostWrite_reg s v (by decide) (by decide)]
    exact congrArg (fun t : State => { t with hostResp := some .ok })
      (State.unlessBusy_of_idle hidle _)
  refine ⟨fun hv => ?_, fun hv => ?_⟩
  · rw [hwrite, if_pos hv]
    rfl
  · rw [hwrite, hv]
    rfl

/-! ## Reading back a write -/

/-- The response of a host write is not a register. -/
theorem State.readReg_withHostResp (s : State) (resp : Option HostResp) (r : Reg) :
    State.readReg { s with hostResp := resp } r = s.readReg r := by
  cases r <;> rfl

/-- A read of a register's offset after a write there, through both register functions. -/
theorem hostResp_read_of_write (s : State) (v : Word) {off : Word} {r : Reg}
    (hr : regAt off.toNat = r) (hlt : off.toNat < 0x1000) (halign : off.toNat % 4 = 0) :
    (hostRead off .word (hostWrite off .word v s)).hostResp
      = some (.value ((s.writeReg v r).readReg r)) := by
  rw [hostResp_hostRead_reg _ hlt halign, hostWrite_reg s v hlt halign,
    State.readReg_withHostResp, hr]

theorem ofNat_bit (b : Bool) : BitVec.ofNat 32 (bit b) = if b then 1 else 0 := by
  cases b <;> rfl

theorem ofNat_bit_getLsbD_zero (v : Word) : BitVec.ofNat 32 (bit (v.getLsbD 0)) = v &&& 1 := by
  have hlow : bit (v.getLsbD 0) = v.toNat % 2 := by
    rcases Nat.mod_two_eq_zero_or_one v.toNat with h | h <;>
      simp [BitVec.getLsbD, Nat.testBit_zero, h, bit]
  apply BitVec.eq_of_toNat_eq
  rw [hlow, BitVec.toNat_and]
  exact (Nat.mod_eq_of_lt (by omega)).trans (Nat.and_two_pow_sub_one_eq_mod v.toNat 1).symm

theorem setWidth_setWidth_eight (v : Word) : (v.setWidth 8).setWidth 32 = v &&& 0xFF := by
  apply BitVec.eq_of_toNat_eq
  rw [BitVec.toNat_setWidth, BitVec.toNat_setWidth, BitVec.toNat_and]
  exact (Nat.mod_eq_of_lt (by omega)).trans (Nat.and_two_pow_sub_one_eq_mod v.toNat 8).symm

/-- Settles O48: at each offset, the register there keeps the implemented bits (`State.writeReg`) and
reads them (`State.readReg`). -/
theorem registersReadBackTheirWrittenBits : Obligations.RegistersReadBackTheirWrittenBits := by
  intro s v hidle
  have hfree := State.unlessBusy_of_idle hidle
  refine ⟨?_, ?_, ?_, ?_, fun i off hoff => ?_⟩
  · rw [hostResp_read_of_write s v (r := .cfg) rfl (by decide) (by decide),
      ← ofNat_bit_getLsbD_zero, State.writeReg, hfree, State.readReg]
  · rw [hostResp_read_of_write s v (r := .inten) rfl (by decide) (by decide),
      ← ofNat_bit_getLsbD_zero, State.writeReg, State.readReg]
  · rw [hostResp_read_of_write s v (r := .blksz) rfl (by decide) (by decide),
      ← setWidth_setWidth_eight, State.writeReg, hfree, State.readReg]
  · rw [hostResp_read_of_write s v (r := .cmd) rfl (by decide) (by decide), State.writeReg, hfree,
      State.readReg]
  · rw [hostResp_read_of_write s v (regAt_arg hoff) (by omega) (by omega), State.writeReg, hfree,
      State.readReg, Vector.get_eq_getElem, Vector.getElem_set_self]

/-- Settles O49: a write of a read-only offset is the identity (`State.writeReg_readOnly`), and a read
gives the value of the register at the offset. -/
theorem readOnlyOffsetsIgnoreWrites : Obligations.ReadOnlyOffsetsIgnoreWrites := by
  refine ⟨fun s off v hlt halign => ⟨fun hro => ?_, fun hres => ?_⟩, fun s => ?_⟩
  · rw [hostWrite_reg s v hlt halign, s.writeReg_readOnly v hro]
  · rw [hostResp_hostRead_reg s hlt halign, regAt_reserved hres]
    rfl
  have hread {off : Word} := hostResp_hostRead_reg s (off := off)
  refine ⟨hread (by decide) (by decide), hread (by decide) (by decide),
    hread (by decide) (by decide), hread (by decide) (by decide), hread (by decide) (by decide),
    hread (by decide) (by decide), hread (by decide) (by decide), hread (by decide) (by decide),
    ?_, hread (by decide) (by decide), fun i off => ⟨fun hoff => ?_, fun hoff => ?_⟩⟩
  · rw [← ofNat_bit]
    exact hread (by decide) (by decide)
  · rw [hread (by omega) (by omega), regAt_refLow hoff]
    rfl
  · rw [hread (by omega) (by omega), regAt_refHigh hoff]
    rfl

/-! ## STATUS -/

theorem bit_lt_two (b : Bool) : bit b < 2 := by cases b <;> decide

theorem State.statusWord_toNat (s : State) :
    s.statusWord.toNat = bit s.busy + 2 * bit s.done + 4 * bit s.err + 8 * bit s.ecbWait
      + 256 * s.errCode.toNat := by
  have hcode := s.errCode.isLt
  have hbits := bit_lt_two
  have h0 := hbits s.busy
  have h1 := hbits s.done
  have h2 := hbits s.err
  have h3 := hbits s.ecbWait
  rw [State.statusWord, BitVec.toNat_ofNat, Nat.mod_eq_of_lt (by omega)]

theorem getLsbD_eq_of_bit {w : Word} {i : Nat} {b : Bool} (h : w.toNat / 2 ^ i % 2 = bit b) :
    w.getLsbD i = b := by
  rw [BitVec.getLsbD, Nat.testBit_eq_decide_div_mod_eq, h]
  cases b <;> rfl

theorem extractLsb'_eq_of_toNat {w : Word} {i n : Nat} {x : BitVec n}
    (h : w.toNat / 2 ^ i % 2 ^ n = x.toNat) : w.extractLsb' i n = x :=
  BitVec.eq_of_toNat_eq (by rw [BitVec.extractLsb'_toNat, Nat.shiftRight_eq_div_pow, h])

/-- Settles O53: each field is a digit of the number that STATUS is (`State.statusWord_toNat`). -/
theorem statusWordShowsTheFields : Obligations.StatusWordShowsTheFields := by
  intro s
  have hword := s.statusWord_toNat
  have hcode := s.errCode.isLt
  have hbusy := bit_lt_two s.busy
  have hdone := bit_lt_two s.done
  have herr := bit_lt_two s.err
  have hwait := bit_lt_two s.ecbWait
  refine ⟨getLsbD_eq_of_bit ?_, getLsbD_eq_of_bit ?_, getLsbD_eq_of_bit ?_, getLsbD_eq_of_bit ?_,
    extractLsb'_eq_of_toNat ?_, extractLsb'_eq_of_toNat ?_, extractLsb'_eq_of_toNat ?_,
    by rw [State.irq, Bool.and_eq_true]⟩
  all_goals
    simp only [hword, BitVec.ofNat_eq_ofNat, BitVec.toNat_ofNat]
    omega

end Sys2Proof.Machine
end

section
/-! PROOF. START (R30) and DIRTY (R39 d, R93, R245). What START records as DIRTY is the running
command's output region (`State.runningOutput`); a host read finds unspecified exactly the bytes of that
region (`dirtyIs_output`), and none where the command has no such region (`isDirty_of_no_output`). -/

namespace Sys2Proof.Machine

/-- A write of START to an idle engine. -/
theorem hostWrite_start {s : State} {v : Word} (hidle : s.engine = .idle)
    (hstart : v.getLsbD 0 = true) (hsrst : v.getLsbD 1 = false) :
    hostWrite 0x008 .word v s = { s.start with hostResp := some .ok } := by
  have hctrl : s.writeCtrl v = s.start := by
    simp only [State.writeCtrl, hstart, hsrst, State.unlessBusy_of_idle hidle, if_true,
      Bool.false_eq_true, if_false]
  rw [hostWrite_reg s v (by decide) (by decide), ← hctrl]
  rfl

/-! ## Output regions -/

theorem Region.inRange_iff (r : Region) (s : State) : r.inRange s.bufSize = true ↔ r.Fits s := by
  rw [Region.inRange, decide_eq_true_eq, Region.Fits]

theorem outputDefined_detect (s : State) :
    outputDefined .detect s = true ↔ 0 < s.arg 1 ∧ s.descTable.Fits s := by
  rw [outputDefined, Bool.and_eq_true, decide_eq_true_eq, Region.inRange_iff]

theorem outputDefined_pad (s : State) : outputDefined .pad s = true ↔ 0 < s.blkLen := by
  rw [outputDefined, decide_eq_true_eq]

theorem outputDefined_cbcenc (s : State) : outputDefined .cbcenc s = true ↔ 0 < s.blkLen := by
  rw [outputDefined, decide_eq_true_eq]

theorem outputDefined_unpad (s : State) :
    outputDefined .unpad s = true ↔
      0 < s.arg 1 ∧ (s.argRegion 0 1).Fits s ∧ s.unpadByte ≤ s.arg 1 := by
  rw [outputDefined, Bool.and_eq_true, Bool.and_eq_true, decide_eq_true_eq, decide_eq_true_eq,
    Region.inRange_iff, and_assoc]

theorem maxLen_le {rs : List Region} {n : Nat} (h : ∀ r ∈ rs, r.len ≤ n) : maxLen rs ≤ n := by
  induction rs with
  | nil => exact Nat.zero_le n
  | cons r rs ih =>
    rw [List.forall_mem_cons] at h
    exact max_le h.1 (ih h.2)

/-- `M` of R154 is the greatest length of a line of the table. -/
theorem State.maxLen_descEntries {s : State} {n : Nat} (hfit : s.descTable.Fits s)
    (hle : ∀ j, j < s.arg 1 → (s.descEntry j).len ≤ n)
    (hmax : ∃ j, j < s.arg 1 ∧ (s.descEntry j).len = n) : maxLen s.descEntries = n := by
  rw [s.descEntries_of_fits hfit]
  refine Nat.le_antisymm (maxLen_le ?_) ?_
  · simpa using hle
  · obtain ⟨j, hj, rfl⟩ := hmax
    exact len_le_maxLen _ _ (List.mem_map_of_mem (List.mem_range.mpr hj))

/-! ## DIRTY -/

theorem State.runningOutput_of_fetch {s : State} {i : Instr} (hf : s.fetch = .ok i) :
    s.runningOutput =
      if outputDefined i s then (outputRegion i s).map (fun r => r.within s.bufSize) else none := by
  rw [State.runningOutput, hf]

theorem State.runningOutput_of_undefined {s : State} {i : Instr} (hf : s.fetch = .ok i)
    (hd : ¬outputDefined i s = true) : s.runningOutput = none := by
  rw [State.runningOutput_of_fetch hf, if_neg hd]

theorem State.runningOutput_of_no_region {s : State} {i : Instr} (hf : s.fetch = .ok i)
    (hr : outputRegion i s = none) : s.runningOutput = none := by
  rw [State.runningOutput_of_fetch hf, hr, Option.map_none, ite_self]

section

variable {t : State} {i : Instr}

/-- DIRTY is the output region, as to the bytes of the scratchpad. -/
theorem dirtyIs_output {r : Region} (hrun : t.engine = .run) (hdirty : t.dirty = t.runningOutput)
    (hf : t.fetch = .ok i) (hd : outputDefined i t = true) (hr : outputRegion i t = some r) :
    DirtyIs r t := by
  intro a ha
  have hwithin : t.dirty = some (r.within t.bufSize) := by
    rw [hdirty, State.runningOutput_of_fetch hf, if_pos hd, hr, Option.map_some]
  have hbusy : t.busy = true := t.busy_iff.mpr (by simp [hrun])
  rw [State.isDirty, hbusy, hwithin, Bool.true_and, decide_eq_true_eq]
  exact r.mem_within t.bufSize a ha

theorem isDirty_of_no_output (hdirty : t.dirty = t.runningOutput) (hnone : t.runningOutput = none)
    (a : Nat) : t.isDirty a = false := by
  rw [State.isDirty, hdirty, hnone, Bool.and_false]

end

/-- Settles O44: the registers and the snapshot are `State.start`'s, and DIRTY is the output region of
R93, command by command. -/
theorem startTakesTheSnapshot : Obligations.StartTakesTheSnapshot := by
  intro s v hidle hstart hsrst
  rw [hostWrite_start hidle hstart hsrst]
  intro t
  have hdirty : t.dirty = t.runningOutput := rfl
  have hfetch : t.fetch = decode s.cmd := rfl
  have hout {i : Instr} {r : Region} (hi : decode s.cmd = .ok i) :=
    dirtyIs_output (i := i) (r := r) (t := t) rfl hdirty hi
  refine ⟨rfl, rfl, rfl, rfl, rfl, rfl, rfl, rfl, rfl, rfl, rfl, rfl, rfl, rfl, fun _ => rfl,
    ⟨rfl, rfl⟩, rfl, rfl, rfl, rfl, rfl, rfl, fun hi => hout hi rfl rfl,
    fun hi => hout hi rfl rfl, fun hi => hout hi rfl rfl, fun hi => hout hi rfl rfl,
    fun hi => hout hi rfl rfl, fun hi => hout hi rfl rfl, fun hi => hout hi rfl rfl,
    ?detect, ?pad, ?unpad, ?cbcenc, fun hi => hout hi rfl rfl, ?noOutput⟩
  case detect =>
    intro n hi hfit hle hmax
    have hpos : 0 < t.arg 1 := by
      obtain ⟨j, hj, -⟩ := hmax
      exact Nat.zero_lt_of_lt hj
    refine hout hi ((outputDefined_detect t).mpr ⟨hpos, hfit⟩) ?_
    rw [outputRegion, State.maxLen_descEntries hfit hle hmax]
  case pad => exact fun hi hblk => hout hi ((outputDefined_pad t).mpr hblk) rfl
  case unpad =>
    rintro p hi hpos hfit rfl hle
    exact hout hi ((outputDefined_unpad t).mpr ⟨hpos, hfit, hle⟩) rfl
  case cbcenc => exact fun hi hblk => hout hi ((outputDefined_cbcenc t).mpr hblk) rfl
  case noOutput =>
    intro hcases
    refine isDirty_of_no_output hdirty ?_
    rw [← hfetch] at hcases
    rcases hcases with ⟨e, he⟩ | hi | hi | hi | ⟨hi | hi, hblk⟩ | ⟨hi, hbad⟩ | ⟨hi, hbad⟩
    · rw [State.runningOutput, he]
    · exact State.runningOutput_of_no_region hi rfl
    · exact State.runningOutput_of_no_region hi rfl
    · exact State.runningOutput_of_no_region hi rfl
    · exact State.runningOutput_of_undefined hi (by rw [outputDefined_pad]; omega)
    · exact State.runningOutput_of_undefined hi (by rw [outputDefined_cbcenc]; omega)
    · refine State.runningOutput_of_undefined hi ?_
      rw [outputDefined_unpad]
      rintro ⟨hpos, hfit, hle⟩
      rcases hbad with hzero | hunfit | hlong
      · omega
      · exact hunfit hfit
      · exact absurd hle (Nat.not_le.mpr hlong)
    · refine State.runningOutput_of_undefined hi ?_
      rw [outputDefined_detect]
      rintro ⟨hpos, hfit⟩
      rcases hbad with hzero | hunfit
      · omega
      · exact hunfit hfit

end Sys2Proof.Machine
end

section
/-! PROOF. REF and REF_VALID (R36, R37, R240): no operation of the machine but LDREF's completion and
power-on reset changes REF or sets REF_VALID (`RefKept`). -/

namespace Sys2Proof.Machine

/-- REF is unchanged, and REF_VALID is not newly set. SRST may clear it (R241). -/
def RefKept (s t : State) : Prop := t.ref = s.ref ∧ (t.refValid = true → s.refValid = true)

theorem SameRef.refKept {s t : State} (h : SameRef s t) : RefKept s t :=
  ⟨h.1, fun hv => h.2 ▸ hv⟩

theorem RefKept.refl (s : State) : RefKept s s := ⟨rfl, id⟩

theorem refKept_iff (s t : State) :
    RefKept s t ↔ ¬(t.ref ≠ s.ref ∨ (t.refValid = true ∧ s.refValid = false)) := by
  simp only [RefKept, not_or, not_not, not_and, Bool.not_eq_false]

/-! ## Commands -/

theorem State.guarded_sameRef {s body : State} (cs : List Check) (h : SameRef s body) :
    SameRef s (s.guarded cs body) := by
  rcases s.guarded_cases cs body with ⟨e, -, hg⟩ | ⟨-, hg⟩
  · rw [hg]
    exact ⟨s.raiseError_ref e, s.raiseError_refValid e⟩
  · rwa [hg]

theorem commandBody_sameRef {i : Instr} (s : State) (h : i ≠ .ldref) :
    SameRef s (commandBody i s) := by
  cases i with
  | ldref => exact absurd rfl h
  | xor => simp [SameRef, commandBody, xorBody]
  | rxor => simp [SameRef, commandBody, rxorBody]
  | hist => simp [SameRef, commandBody, histBody]
  | relfreq => simp [SameRef, commandBody, relfreqBody]
  | bcoef => simp [SameRef, commandBody, bcoefBody]
  | score => simp [SameRef, commandBody, scoreBody]
  | xscore => simp [SameRef, commandBody, xscoreBody]
  | bestxor => simp [SameRef, commandBody, bestxorBody]
  | sbxor => simp [SameRef, commandBody, sbxorBody]
  | detect => simp [SameRef, commandBody, detectBody]
  | pad => simp [SameRef, commandBody, padBody]
  | unpad => simp [SameRef, commandBody, unpadBody]
  | cbcenc => simp [SameRef, commandBody, cbcencStart, State.encRequest]
  | cbcdec => simp [SameRef, commandBody, cbcdecStart, State.decRequest]

theorem ecbFailed_sameRef (s : State) (l : CbcLocals) : SameRef s (s.ecbFailed l) := by
  simp [SameRef, State.ecbFailed]

theorem cbcencNext_sameRef (s : State) (l : CbcLocals) (c : List Byte) :
    SameRef s (cbcencNext s l c) := by
  unfold cbcencNext
  split
  · simp [SameRef, State.encRequest]
  · simp [SameRef]

theorem cbcdecEnd_sameRef (s : State) (n : Nat) : SameRef s (cbcdecEnd s n) := by
  simp only [cbcdecEnd]
  split <;> simp [SameRef]

theorem cbcdecNext_sameRef (s : State) (l : CbcLocals) (y : List Byte) :
    SameRef s (cbcdecNext s l y) := by
  unfold cbcdecNext
  split
  · simp [SameRef, State.decRequest]
  · exact cbcdecEnd_sameRef (s.memWrite _ _) _

/-- R30, R36: every command but LDREF leaves REF and REF_VALID, wherever its progress stands. -/
theorem exec_sameRef {i : Instr} {s t : State} (h : i ≠ .ldref) (hx : exec i s = .next t) :
    SameRef s t := by
  have hstart := s.guarded_sameRef (validation i s) (commandBody_sameRef s h)
  by_cases he : i = .cbcenc
  · subst he
    cases hx
    split
    · exact hstart
    · exact ⟨rfl, rfl⟩
    · exact cbcencNext_sameRef s _ _
    · exact ecbFailed_sameRef s _
  by_cases hd : i = .cbcdec
  · subst hd
    cases hx
    split
    · exact hstart
    · exact ⟨rfl, rfl⟩
    · exact cbcdecNext_sameRef s _ _
    · exact ecbFailed_sameRef s _
  rw [exec_of_not_cbc i s he hd] at hx
  cases hx
  exact hstart

/-- A turn of the engine that does not run LDREF. -/
theorem engineStep_sameRef {s t : State} (hx : engineStep s = .next t)
    (h : ¬(s.engine = .run ∧ s.fetch = .ok .ldref)) : SameRef s t := by
  rcases engineStep_cases s t hx with ⟨-, rfl⟩ | ⟨-, -, rfl⟩ | ⟨hrun, i, hf, hexec⟩
  · exact ⟨rfl, rfl⟩
  · exact ⟨s.raiseError_ref _, s.raiseError_refValid _⟩
  · refine exec_sameRef (fun hi => h ⟨hrun, ?_⟩) hexec
    rw [hf, hi]

/-! ## The host and the oracle -/

theorem softReset_refKept (s : State) : RefKept s s.softReset := by
  refine ⟨?_, nofun⟩
  change s.abort.ref = s.ref
  unfold State.abort
  split
  · split
    · exact s.scramble_ref _
    · rfl
  · rfl

theorem unlessBusy_refKept {s t : State} (h : RefKept s t) : RefKept s (s.unlessBusy t) := by
  unfold State.unlessBusy
  split
  · exact .refl s
  · exact h

theorem writeReg_refKept (s : State) (v : Word) (r : Reg) : RefKept s (s.writeReg v r) := by
  cases r with
  | ctrl =>
    change RefKept s (s.writeCtrl v)
    unfold State.writeCtrl
    split
    · exact softReset_refKept s
    · split
      · exact unlessBusy_refKept (.refl s)
      · exact .refl s
  | status =>
    refine unlessBusy_refKept ?_
    split <;> exact .refl s
  | cfg => exact unlessBusy_refKept (.refl s)
  | cmd => exact unlessBusy_refKept (.refl s)
  | blksz => exact unlessBusy_refKept (.refl s)
  | arg i => exact unlessBusy_refKept (.refl s)
  | _ => exact .refl s

theorem hostRead_sameRef (off : Word) (w : Width) (s : State) : SameRef s (hostRead off w s) := by
  unfold hostRead
  split <;> exact ⟨rfl, rfl⟩

theorem hostWrite_refKept (off : Word) (w : Width) (v : Word) (s : State) :
    RefKept s (hostWrite off w v s) := by
  unfold hostWrite
  split
  · exact writeReg_refKept s v _
  · exact unlessBusy_refKept (t := s.memWrite _ _) (.refl s)
  · exact .refl s

theorem hostPoll_sameRef (s : State) : SameRef s (hostPoll s) := by
  unfold hostPoll
  split <;> exact hostRead_sameRef _ _ s

theorem oracleStep_sameRef {n : Nat} {a : EcbAnswer} {s t : State}
    (hx : oracleStep n a s = .next t) : SameRef s t := by
  rcases oracleStep_cases n a s t hx with ⟨-, rfl⟩ | ⟨-, -, -, rfl⟩
  · exact ⟨rfl, rfl⟩
  · exact ⟨s.ecbAnswer_ref a, s.ecbAnswer_refValid a⟩

/-! ## Every step -/

/-- Every input but a power-on reset and a turn of the engine that runs LDREF. -/
theorem inputStep_refKept {e : Input} {s t : State} (hx : inputStep e s = .next t)
    (hpower : e ≠ .powerOn) (hldref : e = .engine → ¬(s.engine = .run ∧ s.fetch = .ok .ldref)) :
    RefKept s t := by
  cases e with
  | hostRead off w => cases hx; exact (hostRead_sameRef off w s).refKept
  | hostWrite off w v => cases hx; exact hostWrite_refKept off w v s
  | hostWait => cases hx; exact (hostPoll_sameRef s).refKept
  | engine => exact (engineStep_sameRef hx (hldref rfl)).refKept
  | oracle n a => exact (oracleStep_sameRef hx).refKept
  | powerOn => exact absurd rfl hpower

/-- Settles O59: any step of another kind keeps REF and sets no REF_VALID (`RefKept`). -/
theorem onlyLdrefWritesTheReferenceTable : Obligations.OnlyLdrefWritesTheReferenceTable := by
  intro s t hx hchange
  by_contra hother
  obtain ⟨hpower, hengine⟩ := not_or.mp hother
  refine (refKept_iff s t).mp ?_ hchange
  rcases step_cases s t hx with ⟨hnil, hx⟩ | ⟨e, rest, hcons, hx⟩
  · exact (engineStep_sameRef hx fun h => hengine ⟨.inl hnil, h⟩).refKept
  · rw [hcons] at hpower hengine
    exact inputStep_refKept (s := { s with inputs := rest }) hx (fun he => hpower (by rw [he]; rfl))
      fun he h => hengine ⟨.inr (by rw [he]; rfl), h⟩

end Sys2Proof.Machine
end

section
/-! PROOF. Host accesses by their target (R63 to R68, R72): the three targets of an access
(`State.target_reg`, `State.target_sp`, `State.target_none`), the little-endian bytes of a scratchpad
access, and what BUSY lets a host write do (`State.writeReg_of_busy`). -/

namespace Sys2Proof.Machine

/-! ## The bytes of a word -/

/-- Digit `i` of a little-endian field is byte `i` (R13, R62). -/
theorem leNat_div_mod {bs : List Byte} {i : Nat} (h : i < bs.length) :
    leNat bs / 256 ^ i % 256 = bs[i].toNat := by
  induction bs generalizing i with
  | nil => simp at h
  | cons b bs ih =>
    have hb := b.isLt
    cases i with
    | zero =>
      simp only [leNat, pow_zero, Nat.div_one, List.getElem_cons_zero]
      omega
    | succ i =>
      have hdrop : leNat (b :: bs) / 256 = leNat bs := by
        simp only [leNat]
        omega
      rw [Nat.pow_succ', ← Nat.div_div_eq_div_mul, hdrop, List.getElem_cons_succ]
      exact ih (by simpa using h)

theorem leBytes_getD {n v i : Nat} (h : i < n) :
    (leBytes n v).getD i 0 = BitVec.ofNat 8 (v / 256 ^ i) := by
  induction n generalizing v i with
  | zero => simp at h
  | succ n ih =>
    cases i with
    | zero => simp [leBytes]
    | succ i =>
      rw [leBytes, List.getD_cons_succ, ih (by omega), Nat.div_div_eq_div_mul, ← Nat.pow_succ']

theorem extractLsb'_byte_eq {v : Word} {i : Nat} {b : Byte} (h : v.toNat / 256 ^ i % 256 = b.toNat) :
    v.extractLsb' (8 * i) 8 = b :=
  extractLsb'_eq_of_toNat (by rwa [Nat.pow_mul])

theorem Width.pow_bytes_le (w : Width) : 256 ^ w.bytes ≤ 2 ^ 32 := by cases w <;> decide

/-- A word holds every value that an access of its width can read. -/
theorem Width.toNat_ofNat_leNat (w : Width) {bs : List Byte} (h : bs.length = w.bytes) :
    (BitVec.ofNat 32 (leNat bs)).toNat = leNat bs := by
  have hlt := leNat_lt bs
  have hle := w.pow_bytes_le
  rw [h] at hlt
  rw [BitVec.toNat_ofNat, Nat.mod_eq_of_lt (by omega)]

/-! ## Targets -/

section

variable (s : State) {off : Nat}

theorem State.target_sp {n a : Nat} (hoff : off = 0x10000 + a) (halign : a % n = 0)
    (hin : a + n ≤ s.bufSize) : s.target off n = .sp a := by
  have ha : off - spOffset = a := by rw [hoff, spOffset, Nat.add_sub_cancel_left]
  rw [State.target, if_neg (by omega), if_neg (by rw [spOffset]; omega), ha,
    if_pos ⟨halign, hin⟩]

theorem Width.eq_word_of_bytes {w : Width} (h : w.bytes = 4) : w = .word := by
  cases w
  · cases h
  · cases h
  · rfl

/-- R63 to R65: what is neither a register access nor a scratchpad access has no target. -/
theorem State.target_none {w : Width}
    (hreg : ¬(off < 0x1000 ∧ w = .word ∧ off % 4 = 0))
    (hsp : ¬(0x10000 ≤ off ∧ (off - 0x10000) % w.bytes = 0 ∧ off - 0x10000 + w.bytes ≤ s.bufSize)) :
    s.target off w.bytes = .none := by
  rw [State.target]
  split
  · next hlt => exact if_neg fun ⟨hw, halign⟩ => hreg ⟨hlt, Width.eq_word_of_bytes hw, halign⟩
  · split
    · rfl
    · next hge => exact if_neg fun h => hsp ⟨Nat.le_of_not_lt hge, h⟩

end

section

variable (s : State) {off : Word} {w : Width} {a : Nat}

theorem hostRead_sp (hoff : off.toNat = 0x10000 + a) (halign : a % w.bytes = 0)
    (hin : a + w.bytes ≤ s.bufSize) : hostRead off w s = s.hostReadSp a w.bytes := by
  rw [hostRead, s.target_sp hoff halign hin]

theorem hostWrite_sp (v : Word) (hoff : off.toNat = 0x10000 + a) (halign : a % w.bytes = 0)
    (hin : a + w.bytes ≤ s.bufSize) :
    hostWrite off w v s =
      { s.unlessBusy (s.memWrite a (leBytes w.bytes v.toNat)) with hostResp := some .ok } := by
  rw [hostWrite, s.target_sp hoff halign hin]

end

/-- Settles O50: such an access has no target (`State.target_none`). -/
theorem busErrorHasNoEffect : Obligations.BusErrorHasNoEffect := by
  intro s off v w hreg hsp
  have hnone := s.target_none hreg hsp
  refine ⟨?_, ?_⟩
  · rw [hostRead, hnone]
  · rw [hostWrite, hnone]

/-! ## Scratchpad accesses -/

/-- While idle a host read sees the scratchpad as the engine does (R65, R68). -/
theorem State.hostResp_hostReadSp_of_idle {s : State} (h : s.engine = .idle) (a n : Nat) :
    (s.hostReadSp a n).hostResp = some (.value (BitVec.ofNat 32 (leNat (s.memRead a n)))) := by
  have hbyte (i : Nat) : s.hostByte a i = s.byteAt (a + i) := by
    simp [State.hostByte, State.isDirty, State.busy, h]
  rw [State.hostReadSp, State.memRead, List.map_congr_left fun i _ => hbyte i]

/-- Settles O51: while idle the write is `State.memWrite` of the value's little-endian bytes, and the
read gives the field that these bytes are. -/
theorem scratchpadAccessIsLittleEndian : Obligations.ScratchpadAccessIsLittleEndian := by
  intro s off v w a hidle hoff halign hin t
  have ht : t = { s.memWrite a (leBytes w.bytes v.toNat) with hostResp := some .ok } := by
    rw [← State.unlessBusy_of_idle hidle (s.memWrite a _)]
    exact hostWrite_sp s v hoff halign hin
  have hbyte (x : Nat) : t.byteAt x = (s.memWrite a (leBytes w.bytes v.toNat)).byteAt x := by
    rw [ht]
    rfl
  refine ⟨fun i hi => ?_, fun x hx => ?_, ?_⟩
  · rw [hbyte, State.byteAt_memWrite, leBytes_length, if_pos (by omega), Nat.add_sub_cancel_left,
      leBytes_getD hi, extractLsb'_byte_eq (BitVec.toNat_ofNat _ 8).symm]
  · rw [hbyte]
    exact s.byteAt_memWrite_outside a x _ (by rwa [leBytes_length])
  · have hread : t.memRead a w.bytes = leBytes w.bytes v.toNat := by
      have hback := s.memRead_memWrite a (leBytes w.bytes v.toNat)
      rw [leBytes_length] at hback
      rw [← hback]
      exact State.memRead_congr _ _ _ _ fun x _ _ => hbyte x
    have htidle : t.engine = .idle := by rw [ht]; exact hidle
    have htin : a + w.bytes ≤ t.bufSize := by rw [ht]; exact hin
    rw [hostRead_sp t hoff halign htin, State.hostResp_hostReadSp_of_idle htidle, hread,
      leNat_leBytes]

/-- R65, R68: byte `i` of the value that a host read gives. -/
theorem State.hostResp_hostReadSp (s : State) (a : Nat) (w : Width) :
    ∃ v : Word, (s.hostReadSp a w.bytes).hostResp = some (.value v) ∧ v.toNat < 256 ^ w.bytes ∧
      ∀ i, i < w.bytes → v.extractLsb' (8 * i) 8 = s.hostByte a i := by
  have hlen : ((List.range w.bytes).map (s.hostByte a)).length = w.bytes := by simp
  have hvalue := w.toNat_ofNat_leNat hlen
  refine ⟨_, rfl, ?_, fun i hi => extractLsb'_byte_eq ?_⟩
  · rw [hvalue]
    exact (leNat_lt _).trans_eq (by rw [hlen])
  · rw [hvalue, leNat_div_mod (by rwa [hlen])]
    simp

/-- Settles O52: a read writes the response and the count of draws only; each byte of its value is
`State.hostByte`, current outside DIRTY and a draw inside it. -/
theorem hostReadsChangeNothing : Obligations.HostReadsChangeNothing := by
  intro s off w
  refine ⟨?_, fun a hoff halign hin => ?_⟩
  · unfold hostRead
    split
    · exact ⟨_, s.draws, rfl⟩
    · exact ⟨_, _, rfl⟩
    · exact ⟨_, s.draws, rfl⟩
  · rw [hostRead_sp s hoff halign hin]
    obtain ⟨v, hresp, hlt, hbyte⟩ := s.hostResp_hostReadSp a w
    refine ⟨⟨v, hresp, hlt, fun i hi hclean => ?_, fun i hi hdirty => ?_⟩, fun hbusy => if_pos hbusy⟩
    · rw [hbyte i hi, State.hostByte, if_neg (by simp [hclean])]
    · rw [hbyte i hi, State.hostByte, if_pos hdirty]

/-! ## Writes while BUSY -/

theorem State.unlessBusy_of_busy {s : State} (h : s.busy = true) (t : State) :
    s.unlessBusy t = s := if_pos h

/-- R67: what a register write does while BUSY, but for INTEN and for SRST. -/
theorem State.writeReg_of_busy {s : State} (h : s.busy = true) {v : Word} {r : Reg}
    (hinten : r ≠ .inten) (hsrst : r = .ctrl → v.getLsbD 1 = false) : s.writeReg v r = s := by
  have hdrop := State.unlessBusy_of_busy h
  cases r with
  | inten => exact absurd rfl hinten
  | ctrl =>
    simp only [State.writeReg, State.writeCtrl, hsrst rfl, hdrop, Bool.false_eq_true, if_false,
      ite_self]
  | cfg => exact hdrop _
  | status => exact hdrop _
  | cmd => exact hdrop _
  | blksz => exact hdrop _
  | arg i => exact hdrop _
  | _ => rfl

/-- R24, R26: INTEN and CTRL stand at one offset each. -/
theorem regAt_offsets (off : Nat) :
    (regAt off = .inten → off = 0x010) ∧ (regAt off = .ctrl → off = 0x008) := by
  unfold regAt
  split
  · unfold lowRegAt
    split <;> simp
  · split
    · exact ⟨nofun, nofun⟩
    · split
      · unfold highRegAt
        split <;> exact ⟨nofun, nofun⟩
      · exact ⟨nofun, nofun⟩

/-- Settles O47: BUSY drops every write but INTEN's and SRST (`State.writeReg_of_busy`). -/
theorem busyDropsHostWrites : Obligations.BusyDropsHostWrites := by
  intro s off v hbusy
  refine ⟨fun hlt halign hctrl hinten => ?_, ?_, fun w hlow halign hin => ?_⟩
  · obtain ⟨hintenAt, hctrlAt⟩ := regAt_offsets off.toNat
    rw [hostWrite_reg s v hlt halign, State.writeReg_of_busy hbusy
      (fun h => hinten (BitVec.eq_of_toNat_eq (hintenAt h)))
      (fun h => hctrl (BitVec.eq_of_toNat_eq (hctrlAt h)))]
  · rintro rfl
    exact hostWrite_reg s v (by decide) (by decide)
  · rw [hostWrite_sp s v (by omega) halign hin, State.unlessBusy_of_busy hbusy]

end Sys2Proof.Machine
end

section
/-! PROOF. DIRTY (R39 d, R68, R69, R73, W3): while a command runs, nothing but a power-on reset writes the
scratchpad outside DIRTY. A command writes inside its output region only, which is DIRTY by the
invariant; the host's scratchpad writes are dropped while BUSY, and SRST scrambles DIRTY itself. -/

namespace Sys2Proof.Machine

/-- Every byte of the scratchpad outside the region reads as before; every byte, where there is none. -/
def KeptOutside (d : Option Region) (s t : State) : Prop :=
  ∀ a, (∀ r, d = some r → r.Excludes a) → t.byteAt a = s.byteAt a

theorem KeptOutside.of_sameSp {d : Option Region} {s t : State} (h : SameSp s t) :
    KeptOutside d s t := fun a _ => h a

theorem SameSp.refl (s : State) : SameSp s s := fun _ => rfl

theorem KeptOutside.refl {d : Option Region} (s : State) : KeptOutside d s s := of_sameSp (.refl s)

/-! ## Writes of a command -/

/-- A write inside the region keeps the bytes outside it. -/
theorem keptOutside_memWrite {s : State} {r : Region} {a : Nat} {bs : List Byte}
    (hlow : r.addr ≤ a) (hhigh : a + bs.length ≤ r.addr + r.len) :
    KeptOutside (some r) s (s.memWrite a bs) := by
  intro x hx
  refine s.byteAt_memWrite_outside a x bs ?_
  rcases hx r rfl with hbelow | habove
  · exact .inl (Nat.lt_of_lt_of_le hbelow hlow)
  · exact .inr (Nat.le_trans hhigh habove)

theorem keptOutside_scramble (s : State) (r : Region) : KeptOutside (some r) s (s.scramble r) :=
  fun x hx => s.byteAt_scramble_outside r x (hx r rfl)

namespace KeptOutside

variable {d : Option Region} {s t : State}

theorem setResLen (h : KeptOutside d s t) (n : Nat) : KeptOutside d s (t.setResLen n) := h

theorem setResKey (h : KeptOutside d s t) (k : Byte) : KeptOutside d s (t.setResKey k) := h

theorem setResIdx (h : KeptOutside d s t) (n : Nat) : KeptOutside d s (t.setResIdx n) := h

theorem setResScore (h : KeptOutside d s t) (x : F64) : KeptOutside d s (t.setResScore x) := h

theorem finish (h : KeptOutside d s t) : KeptOutside d s t.finish := h

theorem raiseError (h : KeptOutside d s t) (c : ErrCode) : KeptOutside d s (t.raiseError c) := h

theorem ecbRequest (h : KeptOutside d s t) (dir : EcbDir) (l : CbcLocals) (x : List Byte) :
    KeptOutside d s (t.ecbRequest dir l x) := h

theorem guarded {cs : List Check} (h : firstFailure cs = none → KeptOutside d s t) :
    KeptOutside d s (s.guarded cs t) := by
  rcases s.guarded_cases cs t with ⟨e, -, hg⟩ | ⟨hnone, hg⟩
  · rw [hg]
    exact (refl s).raiseError e
  · rw [hg]
    exact h hnone

end KeptOutside

/-- R93: past its checks, a command's first engine step writes inside its output region only. -/
theorem commandBody_keptOutside {i : Instr} {s : State} (hv : firstFailure (validation i s) = none) :
    KeptOutside (outputRegion i s) s (commandBody i s) := by
  have hsame {d : Option Region} : KeptOutside d s s := .refl s
  have hw {j : Fin 8} {n : Nat} {bs : List Byte} (hlen : bs.length ≤ n) :
      KeptOutside (some (s.argSized j n)) s (s.memWrite (s.arg j) bs) :=
    keptOutside_memWrite (Nat.le_refl _) (Nat.add_le_add_left hlen _)
  cases i with
  | xor => exact ((hw (by simp [State.argRegion])).setResLen _).finish
  | rxor => exact ((hw (by simp [State.argRegion])).setResLen _).finish
  | hist => exact ((hw (by simp [histLen])).setResLen _).finish
  | relfreq => exact ((hw (by simp [freqLen])).setResLen _).finish
  | bcoef => exact (hsame.setResScore _).finish
  | score => exact ((hsame.setResScore _).setResLen _).finish
  | ldref => exact hsame
  | xscore => exact (((hw (by simp [State.argRegion])).setResScore _).setResLen _).finish
  | bestxor =>
    exact ((((hw (s.length_candidatePlains_getD_le _)).setResIdx _).setResScore _).setResLen _).finish
  | sbxor =>
    exact ((((hw (by simp [State.argRegion])).setResKey _).setResScore _).setResLen _).finish
  | detect =>
    exact (((((hw (s.length_lineResults_getD_le _ _ _)).setResIdx _).setResKey _).setResScore
      _).setResLen _).finish
  | pad => exact ((hw (by simp [State.argRegion])).setResLen _).finish
  | unpad =>
    have hpos := ((unpadChecks_none_iff s).mp hv).1
    refine ((hw ?_).setResLen _).finish
    rw [unpadBytes_length, s.unpadByte_eq hpos]
    simp [State.argRegion]
  | cbcenc => exact hsame
  | cbcdec => exact hsame

/-! ## The answered block of a CBC command -/

/-- R184, R185: the block that an answer writes lies in DIRTY. -/
theorem CbcSound.keptOutside_block {s : State} {l : CbcLocals} (h : CbcSound s l) {bs : List Byte}
    (hb : bs.length = s.blkLen) :
    KeptOutside s.dirty s (s.memWrite (s.arg 6 + l.block * s.blkLen) bs) := by
  have hin := h.inside
  rw [Nat.succ_mul] at hin
  rw [h.dirty]
  refine keptOutside_memWrite (Nat.le_add_right _ _) ?_
  simp only [State.argSized]
  omega

theorem CbcSound.keptOutside_ecbFailed {s : State} {l : CbcLocals} (h : CbcSound s l) :
    KeptOutside s.dirty s (s.ecbFailed l) := by
  rw [h.dirty]
  exact (keptOutside_scramble s _).raiseError _

theorem CbcSound.keptOutside_cbcencNext {s : State} {l : CbcLocals} (h : CbcSound s l)
    {c : List Byte} (hc : c.length = s.blkLen) : KeptOutside s.dirty s (cbcencNext s l c) := by
  have hw := h.keptOutside_block hc
  unfold cbcencNext
  split
  · exact hw.ecbRequest _ _ _
  · exact (hw.setResLen _).finish

theorem CbcSound.keptOutside_cbcdecNext {s : State} {l : CbcLocals} (h : CbcSound s l)
    {y : List Byte} (hy : y.length = s.blkLen) : KeptOutside s.dirty s (cbcdecNext s l y) := by
  have hw := h.keptOutside_block (bs := xorBytes y l.prev) (by simp [hy, h.prevBlock])
  simp only [cbcdecNext, cbcdecEnd]
  split
  · exact hw.ecbRequest _ _ _
  · split
    · exact hw.raiseError _
    · exact (hw.setResLen _).finish

/-! ## The engine's turn -/

namespace State.Inv

variable {s t : State}

theorem keptOutside_exec (h : s.Inv) (hrun : s.engine = .run) {i : Instr} (hf : s.fetch = .ok i)
    (hx : Machine.exec i s = .next t) : KeptOutside s.dirty s t := by
  cases hp : s.progress with
  | fresh =>
    rw [exec_fresh i s hp] at hx
    cases hx
    refine .guarded fun hv => ?_
    rw [h.dirty_of_valid hrun hp hf hv]
    exact commandBody_keptOutside hv
  | waiting l =>
    have hsound := h.progress
    simp [ProgressSound, hp, hrun] at hsound
  | answered l a =>
    obtain ⟨hl, hy⟩ := h.answered hp
    rcases hl.command with hc | hc <;> cases hf.symm.trans hc
    · cases a <;> simp only [Machine.exec, execCbcenc, hp] at hx <;> cases hx
      · exact hl.keptOutside_cbcencNext (hy _ rfl)
      · exact hl.keptOutside_ecbFailed
    · cases a <;> simp only [Machine.exec, execCbcdec, hp] at hx <;> cases hx
      · exact hl.keptOutside_cbcdecNext (hy _ rfl)
      · exact hl.keptOutside_ecbFailed

theorem keptOutside_engineStep (h : s.Inv) (hx : Machine.engineStep s = .next t) :
    KeptOutside s.dirty s t := by
  rcases engineStep_cases s t hx with ⟨-, rfl⟩ | ⟨hrun, -, rfl⟩ | ⟨hrun, i, hf, hexec⟩
  · exact .refl _
  · exact KeptOutside.raiseError (.refl s) _
  · exact h.keptOutside_exec hrun hf hexec

end State.Inv

/-! ## The host and the oracle -/

/-- R241 c: SRST makes only the bytes of DIRTY unspecified. -/
theorem softReset_keptOutside (s : State) : KeptOutside s.dirty s s.softReset := by
  have habort : KeptOutside s.dirty s s.abort := by
    unfold State.abort
    split
    · next r hd =>
      rw [hd]
      split
      · exact keptOutside_scramble s r
      · exact .refl s
    · exact .refl s
  exact habort

section

variable {s : State} (hbusy : s.busy = true)

include hbusy

theorem writeReg_keptOutside (v : Word) (r : Reg) : KeptOutside s.dirty s (s.writeReg v r) := by
  by_cases hinten : r = .inten
  · subst hinten
    exact .refl s
  by_cases hsrst : r = .ctrl → v.getLsbD 1 = false
  · rw [State.writeReg_of_busy hbusy hinten hsrst]
    exact .refl s
  · obtain ⟨rfl, hv⟩ := Classical.not_imp.mp hsrst
    have hreset : s.writeReg v .ctrl = s.softReset := if_pos (by simpa using hv)
    rw [hreset]
    exact softReset_keptOutside s

theorem hostWrite_keptOutside (off : Word) (w : Width) (v : Word) :
    KeptOutside s.dirty s (hostWrite off w v s) := by
  unfold hostWrite
  split
  · exact writeReg_keptOutside hbusy v _
  · rw [State.unlessBusy_of_busy hbusy]
    exact .refl s
  · exact .refl s

end

theorem hostRead_sameSp (off : Word) (w : Width) (s : State) : SameSp s (hostRead off w s) := by
  obtain ⟨⟨r, d, hread⟩, -⟩ := hostReadsChangeNothing s off w
  rw [hread]
  exact .refl s

theorem hostPoll_sameSp (s : State) : SameSp s (hostPoll s) := by
  unfold hostPoll
  split <;> exact hostRead_sameSp _ _ s

theorem oracleStep_sameSp {n : Nat} {a : EcbAnswer} {s t : State} (hx : oracleStep n a s = .next t) :
    SameSp s t := by
  rcases oracleStep_cases n a s t hx with ⟨-, rfl⟩ | ⟨-, -, -, rfl⟩
  · exact .refl _
  · exact s.ecbAnswer_byteAt a

/-! ## Every step -/

/-- Every input but a power-on reset. -/
theorem State.Inv.keptOutside_inputStep {s t : State} (h : s.Inv) (hbusy : s.busy = true) {e : Input}
    (hx : Machine.inputStep e s = .next t) (hpower : e ≠ .powerOn) : KeptOutside s.dirty s t := by
  cases e with
  | hostRead off w => cases hx; exact .of_sameSp (hostRead_sameSp off w s)
  | hostWrite off w v => cases hx; exact hostWrite_keptOutside hbusy off w v
  | hostWait => cases hx; exact .of_sameSp (hostPoll_sameSp s)
  | engine => exact h.keptOutside_engineStep hx
  | oracle n a => exact .of_sameSp (oracleStep_sameSp hx)
  | powerOn => exact absurd rfl hpower

/-- Settles O58: a turn of the engine and every input but power-on keep the bytes outside DIRTY
(`KeptOutside`). -/
theorem runningCommandWritesOnlyDirty : Obligations.RunningCommandWritesOnlyDirty := by
  intro s t h hbusy hx hpower
  rcases step_cases s t hx with ⟨-, hengine⟩ | ⟨e, rest, hcons, hinput⟩
  · exact h.keptOutside_engineStep hengine
  · rw [hcons] at hpower
    exact (h.withHostFields _ _ _ _ _ rest _ _).keptOutside_inputStep hbusy hinput
      fun he => hpower (by rw [he]; rfl)

end Sys2Proof.Machine
end

section
/-! PROOF. A command is a function of its snapshot, the scratchpad and the engine's progress (R30, R73).
`SameView` says that two states agree on these; a command's checks and values read nothing else, because
of the other state only the registers, REF and the model's own fields are left (`SameView.eq_withView`,
`validation_withView`). `RunAlike` relates two runs from such states, and every operation that a command
is made of keeps it. -/

namespace Sys2Proof.Machine

/-! ## What a command reads -/

/-- The states agree on all that a command reads: the snapshot, the scratchpad and the engine. -/
structure SameView (s u : State) : Prop where
  engine : u.engine = s.engine
  snap : u.snap = s.snap
  sp : u.sp = s.sp
  epoch : u.epoch = s.epoch
  bufSize : u.bufSize = s.bufSize
  progress : u.progress = s.progress
  pend : u.pend = s.pend
  dirty : u.dirty = s.dirty
  draws : u.draws = s.draws

/-- `u` with all that a command reads taken from `s`. -/
def State.withView (u s : State) : State :=
  { u with
    engine := s.engine, snap := s.snap, sp := s.sp, epoch := s.epoch, bufSize := s.bufSize,
    progress := s.progress, pend := s.pend, dirty := s.dirty, draws := s.draws }

theorem SameView.eq_withView {s u : State} (h : SameView s u) : u = u.withView s := by
  rw [State.withView, ← h.engine, ← h.snap, ← h.sp, ← h.epoch, ← h.bufSize, ← h.progress, ← h.pend,
    ← h.dirty, ← h.draws]

theorem SameView.arg {s u : State} (h : SameView s u) (i : Fin 8) : u.arg i = s.arg i := by
  rw [State.arg, h.snap, State.arg]

theorem SameView.blkLen {s u : State} (h : SameView s u) : u.blkLen = s.blkLen := by
  rw [State.blkLen, h.snap, State.blkLen]

theorem SameView.byteAt {s u : State} (h : SameView s u) (a : Nat) : u.byteAt a = s.byteAt a := by
  rw [State.byteAt, h.sp, h.epoch, State.byteAt]

theorem validation_withView (i : Instr) (s u : State) :
    validation i (u.withView s) = validation i s := by
  cases i <;> rfl

/-! ## Two runs from states that agree -/

/-- The run from `s` to `t` and the run from `u` to `w` agree on all that a command reads; each register
that a command writes is written alike in both or in neither; STATUS agrees once the command has
completed and is unchanged before. -/
structure RunAlike (s u t w : State) : Prop where
  view : SameView t w
  resLen : WroteAlike s.resLen u.resLen t.resLen w.resLen
  resKey : WroteAlike s.resKey u.resKey t.resKey w.resKey
  resIdx : WroteAlike s.resIdx u.resIdx t.resIdx w.resIdx
  resScore : WroteAlike s.resScore u.resScore t.resScore w.resScore
  ref : WroteAlike s.ref u.ref t.ref w.ref
  refValid : WroteAlike s.refValid u.refValid t.refValid w.refValid
  completed : t.engine = .idle → w.done = t.done ∧ w.err = t.err ∧ w.errCode = t.errCode
  underway : t.engine ≠ .idle → t.done = s.done ∧ t.err = s.err ∧ t.errCode = s.errCode ∧
    w.done = u.done ∧ w.err = u.err ∧ w.errCode = u.errCode
  setup : SameSetup s t ∧ SameSetup u w

theorem SameSetup.refl (s : State) : SameSetup s s := ⟨rfl, rfl, rfl, rfl, rfl, rfl, rfl, rfl, rfl, rfl⟩

theorem SameView.statusWord {t w : State} (h : SameView t w)
    (hstatus : w.done = t.done ∧ w.err = t.err ∧ w.errCode = t.errCode) :
    w.statusWord = t.statusWord := by
  obtain ⟨hdone, herr, hcode⟩ := hstatus
  simp only [State.statusWord, State.busy, State.ecbWait, h.engine, hdone, herr, hcode]

namespace RunAlike

variable {s u t w : State}

theorem init (h : SameView s u) (hrun : s.engine = .run) : RunAlike s u s u where
  view := h
  resLen := .inr ⟨rfl, rfl⟩
  resKey := .inr ⟨rfl, rfl⟩
  resIdx := .inr ⟨rfl, rfl⟩
  resScore := .inr ⟨rfl, rfl⟩
  ref := .inr ⟨rfl, rfl⟩
  refValid := .inr ⟨rfl, rfl⟩
  completed := fun hidle => by simp [hrun] at hidle
  underway := fun _ => ⟨rfl, rfl, rfl, rfl, rfl, rfl⟩
  setup := ⟨.refl s, .refl u⟩

theorem memWrite (h : RunAlike s u t w) (a : Nat) (bs : List Byte) :
    RunAlike s u (t.memWrite a bs) (w.memWrite a bs) :=
  { h with
    view := { h.view with sp := congrArg (Memory.write · a bs) h.view.sp }
    setup := ⟨{ h.setup.1 with }, { h.setup.2 with }⟩ }

theorem scramble (h : RunAlike s u t w) (r : Region) :
    RunAlike s u (t.scramble r) (w.scramble r) :=
  { h with
    view := { h.view with
      sp := by simp only [State.scramble, State.freshBytes, h.view.sp, h.view.draws]
      draws := congrArg (· + r.len) h.view.draws }
    setup := ⟨{ h.setup.1 with }, { h.setup.2 with }⟩ }

theorem setResLen (h : RunAlike s u t w) (n : Nat) : RunAlike s u (t.setResLen n) (w.setResLen n) :=
  { h with
    view := { h.view with }
    resLen := .inl rfl
    setup := ⟨{ h.setup.1 with }, { h.setup.2 with }⟩ }

theorem setResKey (h : RunAlike s u t w) (k : Byte) : RunAlike s u (t.setResKey k) (w.setResKey k) :=
  { h with
    view := { h.view with }
    resKey := .inl rfl
    setup := ⟨{ h.setup.1 with }, { h.setup.2 with }⟩ }

theorem setResIdx (h : RunAlike s u t w) (n : Nat) : RunAlike s u (t.setResIdx n) (w.setResIdx n) :=
  { h with
    view := { h.view with }
    resIdx := .inl rfl
    setup := ⟨{ h.setup.1 with }, { h.setup.2 with }⟩ }

theorem setResScore (h : RunAlike s u t w) (x : F64) :
    RunAlike s u (t.setResScore x) (w.setResScore x) :=
  { h with
    view := { h.view with }
    resScore := .inl rfl
    setup := ⟨{ h.setup.1 with }, { h.setup.2 with }⟩ }

theorem loadRef (h : RunAlike s u t w) (f : Nat → F64) : RunAlike s u (t.loadRef f) (w.loadRef f) :=
  { h with
    view := { h.view with }
    ref := .inl rfl
    refValid := .inl rfl
    setup := ⟨{ h.setup.1 with }, { h.setup.2 with }⟩ }

theorem withDirty (h : RunAlike s u t w) (d : Option Region) :
    RunAlike s u { t with dirty := d } { w with dirty := d } :=
  { h with
    view := { h.view with dirty := rfl }
    setup := ⟨{ h.setup.1 with }, { h.setup.2 with }⟩ }

/-- R206: completion sets STATUS and the engine alike. -/
theorem complete (h : RunAlike s u t w) (err : Bool) (code : Byte) :
    RunAlike s u (t.complete err code) (w.complete err code) :=
  { h with
    view := { h.view with engine := rfl, dirty := rfl, pend := rfl, progress := rfl }
    completed := fun _ => ⟨rfl, rfl, rfl⟩
    underway := fun hbusy => absurd rfl hbusy
    setup := ⟨{ h.setup.1 with }, { h.setup.2 with }⟩ }

theorem finish (h : RunAlike s u t w) : RunAlike s u t.finish w.finish := h.complete _ _

theorem raiseError (h : RunAlike s u t w) (c : ErrCode) :
    RunAlike s u (t.raiseError c) (w.raiseError c) := h.complete _ _

/-- R182: the request takes the command no further as to STATUS. -/
theorem ecbRequest (h : RunAlike s u t w) (hrun : t.engine = .run) (dir : EcbDir) (l : CbcLocals)
    (x : List Byte) : RunAlike s u (t.ecbRequest dir l x) (w.ecbRequest dir l x) :=
  { h with
    view := { h.view with engine := rfl, pend := rfl, progress := rfl }
    completed := nofun
    underway := fun _ => h.underway (by simp [hrun])
    setup := ⟨{ h.setup.1 with }, { h.setup.2 with }⟩ }

theorem encRequest (h : RunAlike s u t w) (hrun : t.engine = .run) (l : CbcLocals) :
    RunAlike s u (t.encRequest l) (w.encRequest l) := by
  rw [State.encRequest, State.encRequest, h.view.blkLen]
  exact h.ecbRequest hrun _ _ _

theorem decRequest (h : RunAlike s u t w) (hrun : t.engine = .run) (l : CbcLocals) :
    RunAlike s u (t.decRequest l) (w.decRequest l) := by
  rw [State.decRequest, State.decRequest, h.view.blkLen]
  exact h.ecbRequest hrun _ _ _

theorem guarded (h : SameView s u) (hrun : s.engine = .run) {cs : List Check}
    (hbody : RunAlike s u t w) : RunAlike s u (s.guarded cs t) (u.guarded cs w) := by
  unfold State.guarded
  split
  · exact (init h hrun).raiseError _
  · exact hbody

/-- CBCDEC's end reads one decrypted byte, which both runs have written alike (R185). -/
theorem cbcdecEnd (h : RunAlike s u t w) (n : Nat) :
    RunAlike s u (cbcdecEnd t n) (cbcdecEnd w n) := by
  simp only [Machine.cbcdecEnd, h.view.arg, h.view.byteAt]
  split
  · exact h.raiseError _
  · exact (h.setResLen _).finish

end RunAlike

/-! ## Commands -/

section

variable {s u : State} (h : SameView s u) (hrun : s.engine = .run)

include h hrun

theorem commandBody_runAlike (i : Instr) :
    RunAlike s u (commandBody i s) (commandBody i u) := by
  have hs := RunAlike.init h hrun
  rw [h.eq_withView] at hs ⊢
  cases i with
  | xor => exact ((hs.memWrite _ _).setResLen _).finish
  | rxor => exact ((hs.memWrite _ _).setResLen _).finish
  | hist => exact ((hs.memWrite _ _).setResLen _).finish
  | relfreq => exact ((hs.memWrite _ _).setResLen _).finish
  | bcoef => exact (hs.setResScore _).finish
  | score => exact ((hs.setResScore _).setResLen _).finish
  | ldref => exact (hs.loadRef _).finish
  | xscore => exact (((hs.memWrite _ _).setResScore _).setResLen _).finish
  | bestxor => exact ((((hs.memWrite _ _).setResIdx _).setResScore _).setResLen _).finish
  | sbxor => exact ((((hs.memWrite _ _).setResKey _).setResScore _).setResLen _).finish
  | detect =>
    exact (((((hs.memWrite _ _).setResIdx _).setResKey _).setResScore _).setResLen _).finish
  | pad => exact ((hs.memWrite _ _).setResLen _).finish
  | unpad => exact ((hs.memWrite _ _).setResLen _).finish
  | cbcenc => exact (hs.withDirty (outputRegion .cbcenc s)).encRequest hrun _
  | cbcdec => exact (hs.withDirty (outputRegion .cbcdec s)).decRequest hrun _

/-- A command that has only just started, and one that ends in one step (R204). -/
theorem checkedBody_runAlike (i : Instr) :
    RunAlike s u (s.guarded (validation i s) (commandBody i s))
      (u.guarded (validation i u) (commandBody i u)) := by
  have hv : validation i u = validation i s := by rw [h.eq_withView, validation_withView]
  rw [hv]
  exact .guarded h hrun (commandBody_runAlike h hrun i)

theorem ecbFailed_runAlike (l : CbcLocals) : RunAlike s u (s.ecbFailed l) (u.ecbFailed l) := by
  simp only [State.ecbFailed, State.argSized, h.arg]
  exact ((RunAlike.init h hrun).scramble _).raiseError _

theorem cbcencNext_runAlike (l : CbcLocals) (c : List Byte) :
    RunAlike s u (cbcencNext s l c) (cbcencNext u l c) := by
  have hw := (RunAlike.init h hrun).memWrite (s.arg 6 + l.block * s.blkLen) c
  simp only [cbcencNext, h.arg, h.blkLen]
  split
  · exact hw.encRequest hrun _
  · exact (hw.setResLen _).finish

theorem cbcdecNext_runAlike (l : CbcLocals) (y : List Byte) :
    RunAlike s u (cbcdecNext s l y) (cbcdecNext u l y) := by
  have hw := (RunAlike.init h hrun).memWrite (s.arg 6 + l.block * s.blkLen) (xorBytes y l.prev)
  simp only [cbcdecNext, h.arg, h.blkLen]
  split
  · exact hw.decRequest hrun _
  · exact hw.cbcdecEnd _

/-- Two engine turns on the same command, wherever its progress stands. -/
theorem exec_runAlike {i : Instr} {t w : State} (hx : exec i s = .next t) (hy : exec i u = .next w) :
    RunAlike s u t w := by
  have hbody := checkedBody_runAlike h hrun i
  have hwait := RunAlike.init h hrun
  by_cases he : i = .cbcenc
  · subst he
    simp only [exec, execCbcenc, h.progress] at hx hy
    cases hx
    cases hy
    cases s.progress with
    | fresh => exact hbody
    | waiting l => exact hwait
    | answered l a =>
      cases a with
      | ok c => exact cbcencNext_runAlike h hrun l c
      | fail => exact ecbFailed_runAlike h hrun l
  by_cases hd : i = .cbcdec
  · subst hd
    simp only [exec, execCbcdec, h.progress] at hx hy
    cases hx
    cases hy
    cases s.progress with
    | fresh => exact hbody
    | waiting l => exact hwait
    | answered l a =>
      cases a with
      | ok y => exact cbcdecNext_runAlike h hrun l y
      | fail => exact ecbFailed_runAlike h hrun l
  rw [exec_of_not_cbc _ _ he hd] at hx hy
  cases hx
  cases hy
  exact hbody

end

/-- Settles O60: the two states agree on all that a command reads (`SameView`), so the two runs are alike
(`exec_runAlike`). -/
theorem commandsAreFunctionsOfTheSnapshot : Obligations.CommandsAreFunctionsOfTheSnapshot := by
  intro i s u t w hrun hurun hsnap hsp hepoch hbuf hprogress hpend hdirty hdraws hx hy
  have hview : SameView s u :=
    ⟨hurun.trans hrun.symm, hsnap, hsp, hepoch, hbuf, hprogress, hpend, hdirty, hdraws⟩
  have h := exec_runAlike hview hrun hx hy
  obtain ⟨hleft, hright⟩ := h.setup
  exact ⟨h.view.sp, h.view.engine, h.view.pend, h.view.dirty, h.view.progress, h.view.draws, h.resLen,
    h.resKey, h.resIdx, h.resScore, h.ref, h.refValid,
    fun hidle => h.view.statusWord (h.completed hidle), h.underway, hleft, hright⟩

end Sys2Proof.Machine
end

section
/-! PROOF. The decoder (R92, R95, R96). A CMD word is the number of its two fields
(`toNat_eq_fields`), and the opcode map has one opcode per command (`decodeOpcode_eq_ok`), so a word
decodes to a command exactly when it is that command's word (`decode_eq_ok_iff`). -/

namespace Sys2Proof.Machine

/-- R90: OPC is the low byte of CMD, RSV the rest. -/
theorem toNat_eq_fields (w : Word) : w.toNat = 256 * reservedField w + opcodeField w := by
  rw [reservedField, opcodeField, BitVec.extractLsb'_toNat, BitVec.extractLsb'_toNat,
    Nat.shiftRight_eq_div_pow, Nat.shiftRight_zero]
  have := w.isLt
  omega

theorem decode_encode (i : Instr) : decode (encode i) = .ok i := by
  cases i <;> rfl

/-- Each command stands in one row of the opcode map. -/
theorem decodeOpcode_eq_ok {n : Nat} {i : Instr} (h : decodeOpcode n = .ok i) :
    n = (encode i).toNat := by
  unfold decodeOpcode at h
  split at h <;> cases h <;> rfl

theorem decode_eq_ok_iff (w : Word) (i : Instr) : decode w = .ok i ↔ w = encode i := by
  constructor
  · intro h
    unfold decode at h
    split at h
    · cases h
    · next hrsv =>
      have hopc := decodeOpcode_eq_ok h
      have hfields := toNat_eq_fields w
      exact BitVec.eq_of_toNat_eq (by omega)
  · rintro rfl
    exact decode_encode i

/-- R95: what is no command's word is illegal. -/
theorem exists_decode_error {w : Word} (h : ∀ i, w ≠ encode i) : ∃ e, decode w = .error e := by
  cases hd : decode w with
  | error e => exact ⟨e, rfl⟩
  | ok i => exact absurd ((decode_eq_ok_iff w i).mp hd) (h i)

/-! ## The opcode map -/

/-- Settles O1: each row is `decode_eq_ok_iff` at its command. -/
theorem decodeSelectsExactlyTheOpcodeMap : Obligations.DecodeSelectsExactlyTheOpcodeMap := by
  intro w
  have row := decode_eq_ok_iff w
  exact ⟨row .xor, row .rxor, row .hist, row .relfreq, row .bcoef, row .score, row .ldref,
    row .xscore, row .bestxor, row .sbxor, row .detect, row .pad, row .unpad, row .cbcenc,
    row .cbcdec⟩

/-- Settles O2: the word of each command stands in the decoder's table (`decode_encode`). -/
theorem decodeOfEncode : Obligations.DecodeOfEncode := decode_encode

/-- Settles O3: each word is the encoding of its command (`decode_encode`). -/
theorem specWordsDecode : Obligations.SpecWordsDecode :=
  ⟨decode_encode .xor, decode_encode .ldref, decode_encode .detect, decode_encode .unpad,
    decode_encode .cbcdec⟩

/-! ## Illegal words -/

/-- The engine's turn when it runs an illegal word. -/
theorem engineStep_of_fetch_error {s : State} {e : DecodeError} (hrun : s.engine = .run)
    (h : s.fetch = .error e) : engineStep s = .next (s.raiseError .illegalCmd) := by
  simp only [engineStep, runFetched, hrun, h]

/-- Settles O4: the word does not decode (`exists_decode_error`), and raising an error is a clean
failure (`State.failedCleanly_raiseError`). -/
theorem illegalCommandEndsWithError : Obligations.IllegalCommandEndsWithError := by
  intro s hrun hillegal
  obtain ⟨e, he⟩ := exists_decode_error hillegal
  exact ⟨_, engineStep_of_fetch_error hrun he, s.failedCleanly_raiseError .illegalCmd⟩

end Sys2Proof.Machine
end

section
/-! PROOF. Command statements (R97): the statement's writes load ARG0, ARG1, … and CMD of an idle machine
one step each (`run_argWrites`, `step_cmdWrite`), and the write to CTRL is START (R30), which takes
them into the snapshot (`run_commandStatement`). -/

namespace Sys2Proof.Machine

/-! ## The argument registers -/

/-- ARG0..ARG7 after the writes `argWrites i vs`. -/
def writtenArgs (args : Vector Word 8) : Nat → List Nat → Vector Word 8
  | _, [] => args
  | i, v :: vs => writtenArgs (args.setIfInBounds i (BitVec.ofNat 32 v)) (i + 1) vs

theorem writtenArgs_getElem_of_lt {j i : Nat} {vs : List Nat} (args : Vector Word 8) (hlt : j < i)
    (hj : j < 8) : (writtenArgs args i vs)[j] = args[j] := by
  induction vs generalizing args i with
  | nil => rfl
  | cons v vs ih =>
    rw [writtenArgs, ih _ (by omega), Vector.getElem_setIfInBounds_ne hj (by omega)]

theorem writtenArgs_getElem {i j k : Nat} {vs : List Nat} (args : Vector Word 8)
    (hk : k < vs.length) (hij : j = i + k) (hj : j < 8) :
    (writtenArgs args i vs)[j] = BitVec.ofNat 32 vs[k] := by
  induction vs generalizing args i k with
  | nil => exact absurd hk (Nat.not_lt_zero k)
  | cons v vs ih =>
    cases k with
    | zero =>
      subst hij
      rw [writtenArgs, writtenArgs_getElem_of_lt _ (by omega)]
      exact Vector.getElem_setIfInBounds_self hj
    | succ k => exact ih _ (Nat.lt_of_succ_lt_succ hk) (by omega)

/-! ## The statement's writes, one step each -/

theorem offsetWord_toNat {off : Nat} (h : off < 2 ^ 32) : (offsetWord off).toNat = off := by
  rw [offsetWord, BitVec.toNat_ofNat]
  omega

section

variable {s : State} (hidle : s.engine = .idle)

include hidle

theorem hostWrite_arg {off : Word} (i : Fin 8) (v : Word) (hoff : off.toNat = 0x020 + 4 * i.val) :
    hostWrite off .word v s
      = { s with args := s.args.setIfInBounds i v, hostResp := some .ok } := by
  have hreg : s.writeReg v (.arg i) = { s with args := s.args.setIfInBounds i v } := by
    rw [State.writeReg, State.unlessBusy_of_idle hidle]
    congr 1
    exact Vector.ext fun j hj => by rw [Vector.getElem_set, Vector.getElem_setIfInBounds]
  rw [hostWrite_reg s v (by omega) (by omega), regAt_arg hoff, hreg]

theorem hostWrite_cmd (v : Word) :
    hostWrite 0x014 .word v s = { s with cmd := v, hostResp := some .ok } := by
  rw [hostWrite_reg s v (by decide) (by decide)]
  exact congrArg (fun t : State => { t with hostResp := some .ok })
    (State.unlessBusy_of_idle hidle _)

end

/-- The first step of a run. -/
theorem run_of_step {M : Host.Core} {s t : M.State} (k : Nat) (h : M.step s = .next t) :
    M.run (k + 1) s = M.run k t := by
  rw [Host.Core.run, h]

section

variable {s : State} (hidle : s.engine = .idle) (rest : List Input)

include hidle

theorem step_argWrite (i : Fin 8) (v : Nat) :
    step { s with inputs := hostW (0x020 + 4 * i.val) .word v :: rest }
      = .next { s with
          args := s.args.setIfInBounds i (BitVec.ofNat 32 v), inputs := rest,
          hostResp := some .ok } :=
  congrArg Host.Outcome.next
    (hostWrite_arg (s := { s with inputs := rest }) hidle i _ (offsetWord_toNat (by omega)))

theorem step_cmdWrite (i : Instr) :
    step { s with inputs := hostW 0x014 .word (encode i).toNat :: rest }
      = .next { s with cmd := encode i, inputs := rest, hostResp := some .ok } := by
  have hword : BitVec.ofNat 32 (encode i).toNat = encode i := by
    rw [BitVec.ofNat_toNat, BitVec.setWidth_eq]
  rw [hostW, hword]
  exact congrArg Host.Outcome.next (hostWrite_cmd (s := { s with inputs := rest }) hidle _)

theorem step_startWrite :
    step { s with inputs := hostW 0x008 .word 1 :: rest }
      = .next { State.start { s with inputs := rest } with hostResp := some .ok } :=
  congrArg Host.Outcome.next
    (hostWrite_start (s := { s with inputs := rest }) (v := 1) hidle (by decide) (by decide))

/-- R97, step 1: one step per operand. The response is that of the last write, if there is one. -/
theorem run_argWrites {i : Nat} {vs : List Nat} (hlen : i + vs.length ≤ 8) (k : Nat) :
    ∃ resp, Host.Core.run core (vs.length + k) { s with inputs := argWrites i vs ++ rest }
      = Host.Core.run core k
          { s with args := writtenArgs s.args i vs, inputs := rest, hostResp := resp } := by
  induction vs generalizing s i with
  | nil => exact ⟨s.hostResp, congrArg (Host.Core.run core · _) (Nat.zero_add k)⟩
  | cons v vs ih =>
    rw [List.length_cons] at hlen ⊢
    rw [Nat.add_right_comm]
    have hwrite := step_argWrite hidle (argWrites (i + 1) vs ++ rest) ⟨i, by omega⟩ v
    obtain ⟨resp, hrun⟩ := ih (s := { s with
      args := s.args.setIfInBounds i (BitVec.ofNat 32 v), hostResp := some .ok }) hidle
      (i := i + 1) (by omega)
    exact ⟨resp, Eq.trans (run_of_step (M := core) _ hwrite) hrun⟩

end

/-! ## The statement -/

theorem operandCount_le (i : Instr) : operandCount i ≤ 8 := by cases i <;> decide

theorem operandsWellFormed_iff (i : Instr) (vs : List Nat) :
    operandsWellFormed i vs = true ↔ vs.length = operandCount i ∧ ∀ v ∈ vs, v < 2 ^ 32 := by
  simp only [operandsWellFormed, Bool.and_eq_true, decide_eq_true_eq, List.all_eq_true]

theorem AsmStmt.expand_command {i : Instr} {vs : List Nat} (h : operandsWellFormed i vs = true) :
    (AsmStmt.command i vs).expand = some (argWrites 0 vs
      ++ [hostW 0x014 .word (encode i).toNat, hostW 0x008 .word 1, .hostWait]) := if_pos h

/-- The machine that a command statement starts. -/
def State.startedBy (s : State) (i : Instr) (vs : List Nat) : State :=
  { State.start { s with args := writtenArgs s.args 0 vs, cmd := encode i, inputs := [.hostWait] }
    with hostResp := some .ok }

theorem run_commandStatement {s : State} {i : Instr} {vs : List Nat} (hidle : s.engine = .idle)
    (hlen : vs.length ≤ 8) :
    Host.Core.run core (vs.length + 2) { s with inputs := argWrites 0 vs
        ++ [hostW 0x014 .word (encode i).toNat, hostW 0x008 .word 1, .hostWait] }
      = .next (s.startedBy i vs) := by
  obtain ⟨resp, hargs⟩ := run_argWrites hidle (i := 0) (vs := vs)
    (rest := [hostW 0x014 .word (encode i).toNat, hostW 0x008 .word 1, .hostWait]) (by omega) 2
  have hcmd := step_cmdWrite (s := { s with args := writtenArgs s.args 0 vs, hostResp := resp })
    hidle [hostW 0x008 .word 1, .hostWait] i
  have hstart := step_startWrite (s := { s with
    args := writtenArgs s.args 0 vs, cmd := encode i, hostResp := some .ok }) hidle [.hostWait]
  rw [hargs]
  exact Eq.trans (run_of_step (M := core) 1 hcmd) (run_of_step (M := core) 0 hstart)

/-- Settles O54: the statement's transactions end in `State.startedBy` (`run_commandStatement`), whose
snapshot holds the command's word and the operands. -/
theorem commandStatementStartsItsCommand : Obligations.CommandStatementStartsItsCommand := by
  intro s i vs prog hidle hwf hexpand
  obtain ⟨hcount, hlt⟩ := (operandsWellFormed_iff i vs).mp hwf
  have hlen : vs.length ≤ 8 := hcount ▸ operandCount_le i
  rw [AsmStmt.expand_command hwf] at hexpand
  cases hexpand
  refine ⟨s.startedBy i vs, run_commandStatement hidle hlen, rfl, rfl, decode_encode i,
    fun j hj => ?_, rfl, fun _ => rfl, rfl, rfl⟩
  calc (writtenArgs s.args 0 vs)[j.val].toNat
      = (BitVec.ofNat 32 vs[j.val]).toNat := by
        rw [writtenArgs_getElem s.args hj (Nat.zero_add _).symm]
    _ = vs[j.val] := Nat.mod_eq_of_lt (hlt _ (List.getElem_mem hj))

end Sys2Proof.Machine
end

section
/-! PROOF. XOR and RXOR (R110 to R112). Each writes its output region from two regions of the scratchpad,
byte by byte, sets RES_LEN and completes; the bytes are those of `xorBytes` and `rxorBytes`. -/

namespace Sys2Proof.Machine

/-! ## Repeating-key XOR of byte sequences -/

theorem cyc_getElem? (k : List Byte) {n i : Nat} (h : i < n) :
    (cyc k n)[i]? = some (k.getD (i % k.length) 0) := by
  simp [cyc, h]

theorem rxorBytes_getElem? (k m : List Byte) (i : Nat) :
    (rxorBytes k m)[i]? = m[i]?.map (· ^^^ k.getD (i % k.length) 0) := by
  rw [rxorBytes, xorBytes_getElem?]
  by_cases hi : i < m.length
  · rw [cyc_getElem? k hi, List.getElem?_eq_getElem hi]
    rfl
  · rw [List.getElem?_eq_none (Nat.le_of_not_lt hi)]
    rfl

/-- Settles O8: both passes use the same cycled key, since the first keeps the length. -/
theorem rxorUndoesItself : Obligations.RxorUndoesItself := by
  intro k m _
  calc rxorBytes k (rxorBytes k m)
      = xorBytes (xorBytes m (cyc k m.length)) (cyc k m.length) := by
        rw [rxorBytes, rxorBytes_length, rxorBytes]
    _ = m := xorBytes_self_inverse m _ (cyc_length k _).symm

/-! ## Output in the scratchpad -/

theorem State.readRegion_getElem? (s : State) (r : Region) {i : Nat} (h : i < r.len) :
    (s.readRegion r)[i]? = some (s.byteAt (r.addr + i)) :=
  s.memRead_getElem? r.addr r.len i h

theorem State.readRegion_getD (s : State) (r : Region) {i : Nat} (h : i < r.len) :
    (s.readRegion r).getD i 0 = s.byteAt (r.addr + i) := by
  rw [List.getD_eq_getElem?_getD, s.readRegion_getElem? r h, Option.getD_some]

theorem State.byteAt_memWrite_of_getElem? (s : State) (a : Nat) {bs : List Byte} {i : Nat} {b : Byte}
    (h : bs[i]? = some b) : (s.memWrite a bs).byteAt (a + i) = b := by
  have hi : i < bs.length := (List.getElem?_eq_some_iff.mp h).1
  rw [State.byteAt_memWrite, if_pos (by omega), Nat.add_sub_cancel_left, List.getD_eq_getElem?_getD, h]
  rfl

/-- Past its checks, a command other than CBCENC and CBCDEC is its body. -/
theorem exec_of_valid {i : Instr} {s : State} (he : i ≠ .cbcenc) (hd : i ≠ .cbcdec)
    (hv : firstFailure (validation i s) = none) : exec i s = .next (commandBody i s) := by
  rw [exec_of_not_cbc i s he hd, State.guarded_of_none _ _ _ hv]

/-- A command whose whole effect is the output `bs` in the region `r`, with RES_LEN its length (R206). -/
theorem State.output_finish (s : State) (r : Region) (bs : List Byte) (f : Nat → Byte)
    (hlen : bs.length = r.len) (hbs : ∀ i, i < r.len → bs[i]? = some (f i)) :
    let t := ((s.memWrite r.addr bs).setResLen r.len).finish
    (∀ i, i < r.len → t.byteAt (r.addr + i) = f i) ∧ SameSpOutside r s t ∧
      t.resLen = BitVec.ofNat 32 r.len ∧ t.resKey = s.resKey ∧ t.resIdx = s.resIdx ∧
      t.resScore = s.resScore ∧ Succeeded t ∧ SameRef s t ∧ SameSetup s t :=
  ⟨fun i hi => s.byteAt_memWrite_of_getElem? r.addr (hbs i hi), s.sameSpOutside_memWrite r bs hlen,
    rfl, rfl, rfl, rfl, State.succeeded_finish _, ⟨rfl, rfl⟩,
    ⟨rfl, rfl, rfl, rfl, rfl, rfl, rfl, rfl, rfl, rfl⟩⟩

/-! ## The commands -/

/-- Settles O6: past its checks XOR is `xorBody`, an output of `xorBytes`. -/
theorem xorWritesTheExclusiveOr : Obligations.XorWritesTheExclusiveOr := by
  intro s hlen hA hB hdst hdstA hdstB
  have hv : firstFailure (validation .xor s) = none :=
    (xorChecks_none_iff s).mpr ⟨hlen, hA, hB, hdst, hdstA, hdstB⟩
  refine ⟨xorBody s, exec_of_valid nofun nofun hv, s.output_finish (s.argRegion 4 1) _ _ ?_ ?_⟩
  · simp [State.argRegion, hlen]
  · intro i hi
    have hiB : i < (s.argRegion 2 3).len := Nat.lt_of_lt_of_eq hi hlen
    rw [xorBytes_getElem?, s.readRegion_getElem? (s.argRegion 0 1) hi, s.readRegion_getElem? _ hiB]
    rfl

/-- Settles O7: past its checks RXOR is `rxorBody`, an output of `rxorBytes`. -/
theorem rxorWritesTheRepeatingXor : Obligations.RxorWritesTheRepeatingXor := by
  intro s hpos hK hM hdst hdstK hdstM
  have hv : firstFailure (validation .rxor s) = none :=
    (rxorChecks_none_iff s).mpr ⟨hpos, hK, hM, hdst, hdstK, hdstM⟩
  refine ⟨rxorBody s, exec_of_valid nofun nofun hv, s.output_finish (s.argRegion 4 3) _ _ ?_ ?_⟩
  · simp [State.argRegion]
  · intro i hi
    have hkey : i % (s.argRegion 0 1).len < (s.argRegion 0 1).len := Nat.mod_lt i hpos
    rw [rxorBytes_getElem?, s.readRegion_getElem? (s.argRegion 2 3) hi, Option.map_some,
      State.readRegion_length, s.readRegion_getD _ hkey]
    rfl

end Sys2Proof.Machine
end

section
/-! PROOF. The order of a command's checks (R204). The validation of each command follows its rule, a list
of conditions with their errors (`Follows`); the first condition that does not hold (`Raises`) is then the
error with which the command ends. -/

namespace Sys2Proof.Machine

/-! ## Rules -/

/-- A rule: conditions in the order of the pseudocode, each with the error it raises unless it holds. -/
abbrev Rule := List (Prop × ErrCode)

/-- The first condition of the rule that does not hold raises `e`. -/
inductive Raises (e : ErrCode) : Rule → Prop
  | here {p : Prop} {rule : Rule} : ¬p → Raises e ((p, e) :: rule)
  | later {p : Prop} {d : ErrCode} {rule : Rule} : p → Raises e rule → Raises e ((p, d) :: rule)

namespace Raises

variable {e : ErrCode}

theorem append_left {xs : Rule} (h : Raises e xs) (ys : Rule) : Raises e (xs ++ ys) := by
  induction h with
  | here hp => exact .here hp
  | later hp _ ih => exact .later hp ih

theorem append_right {xs ys : Rule} (hxs : ∀ c ∈ xs, c.1) (h : Raises e ys) : Raises e (xs ++ ys) := by
  induction xs with
  | nil => exact h
  | cons c cs ih =>
    obtain ⟨hc, hcs⟩ := List.forall_mem_cons.mp hxs
    exact .later hc (ih hcs)

/-- Of rules numbered from 0, the first that does not hold throughout. -/
theorem flatMap_range {n j : Nat} {f : Nat → Rule} (hj : j < n) (hpass : ∀ k, k < j → ∀ c ∈ f k, c.1)
    (h : Raises e (f j)) : Raises e ((List.range n).flatMap f) := by
  obtain ⟨m, rfl⟩ : ∃ m, n = j + 1 + m := ⟨n - (j + 1), by omega⟩
  rw [List.range_add, List.range_succ, List.flatMap_append, List.flatMap_append, List.flatMap_singleton]
  refine (append_right (fun c hc => ?_) h).append_left _
  obtain ⟨k, hk, hck⟩ := List.mem_flatMap.mp hc
  exact hpass k (List.mem_range.mp hk) c hck

end Raises

/-! ## Checks that follow a rule -/

/-- The checks report what the rule raises. -/
def Follows (cs : List Check) (rule : Rule) : Prop :=
  ∀ ⦃e⦄, Raises e rule → firstFailure cs = some e

namespace Follows

variable {cs : List Check} {rule : Rule} {p q : Prop} {e : ErrCode}

theorem nil : Follows [] [] := nofun

theorem check {c : Check} (hc : c.ok = true ↔ p) (h : Follows cs rule) :
    Follows (c :: cs) ((p, c.code) :: rule)
  | _, .here hp => if_neg (mt hc.mp hp)
  | _, .later hp hr => (if_pos (hc.mpr hp)).trans (h hr)

/-- Two neighbouring conditions with one error are one condition. -/
theorem and (h : Follows cs ((p, e) :: (q, e) :: rule)) : Follows cs ((p ∧ q, e) :: rule)
  | _, .later hpq hr => h (.later hpq.1 (.later hpq.2 hr))
  | _, .here hpq => by
    by_cases hp : p
    · exact h (.later hp (.here fun hq => hpq ⟨hp, hq⟩))
    · exact h (.here hp)

theorem disjoint {o : Region} {rs : List Region} (hp : (∀ r ∈ rs, o.Apart r) ↔ p) :
    Follows (needDisjoint o rs) [(p, .overlap)]
  | _, .here h => firstFailure_needDisjoint_eq_some o rs (mt hp.mp h)

/-- A command ends with the error that its rule raises (R204, R207 a). -/
theorem endsWith {i : Instr} {s : State} (h : Follows (validation i s) rule) (e : ErrCode)
    (hr : Raises e rule) (hi : i ≠ .cbcenc ∧ i ≠ .cbcdec := by decide) : EndsWith i e.code s :=
  endsWith_of_firstFailure i s e (.inl hi) (h hr)

end Follows

/-! ## Weights -/

/-- R126: the weights that `weightOk` refuses are the bad ones. -/
theorem weightOk_iff_not_badWeight (x : F64) : weightOk x = true ↔ ¬BadWeight x := by
  simp only [weightOk, BadWeight, f64IsInf, f64IsNaN, Bool.and_eq_true, Bool.not_eq_true',
    decide_eq_true_eq, not_or, Bool.not_eq_true]
  exact and_congr_right fun _ => by omega

theorem State.not_tableOk_of_badWeight {s : State} {a v : Nat} (hv : v < 256)
    (h : BadWeight (s.f64At (a + 8 * v))) : ¬s.tableOk a = true := fun hok =>
  (weightOk_iff_not_badWeight _).mp ((s.tableOk_iff a).mp hok v hv) h

/-! ## Descriptor tables -/

/-- What the rule of a command asks of one descriptor entry: range before emptiness (R152, R154). -/
def entryRule (s : State) (e : ErrCode) (r : Region) : Rule := [(r.Fits s, .range), (0 < r.len, e)]

theorem entryRule_holds_iff (s : State) (e : ErrCode) (r : Region) :
    (∀ c ∈ entryRule s e r, c.1) ↔ r.Fits s ∧ 0 < r.len := by
  simp [entryRule]

theorem Follows.entries {s : State} {e : ErrCode} {rs : List Region} {cs : List Check} {rule : Rule}
    (h : Follows cs rule) :
    Follows (rs.flatMap (s.entryChecks e) ++ cs) (rs.flatMap (entryRule s e) ++ rule) := by
  induction rs with
  | nil => exact h
  | cons r rs ih => exact .check (s.needRange_ok r) (.check decide_eq_true_iff ih)

section

variable {s : State} (hfit : s.descTable.Fits s)

include hfit

theorem State.forall_descEntries (P : Region → Prop) :
    (∀ r ∈ s.descEntries, P r) ↔ ∀ j, j < s.arg 1 → P (s.descEntry j) := by
  simp [s.descEntries_of_fits hfit]

/-- The first entry that is not as its rule asks raises its error. -/
theorem State.raises_entry {e d : ErrCode} {j : Nat} (hj : j < s.arg 1)
    (hpass : ∀ k, k < j → (s.descEntry k).Fits s ∧ 0 < (s.descEntry k).len)
    (h : Raises d (entryRule s e (s.descEntry j))) :
    Raises d (s.descEntries.flatMap (entryRule s e)) := by
  rw [s.descEntries_of_fits hfit, List.flatMap_map]
  exact .flatMap_range hj (fun k hk => (entryRule_holds_iff s e _).mpr (hpass k hk)) h

theorem State.entries_hold {e : ErrCode}
    (h : ∀ j, j < s.arg 1 → (s.descEntry j).Fits s ∧ 0 < (s.descEntry j).len) :
    ∀ c ∈ s.descEntries.flatMap (entryRule s e), c.1 := by
  intro c hc
  obtain ⟨r, hr, hcr⟩ := List.mem_flatMap.mp hc
  have hentry := (State.forall_descEntries hfit fun r => r.Fits s ∧ 0 < r.len).mpr h r hr
  exact (entryRule_holds_iff s e r).mpr hentry c hcr

end

/-! ## The rules of the commands -/

section

variable (s : State)

/-- R110. -/
theorem validation_xor_follows : Follows (validation .xor s)
    [(s.arg 1 = s.arg 3, .lengthMismatch),
      ((s.argRegion 0 1).Fits s ∧ (s.argRegion 2 3).Fits s ∧ (s.argRegion 4 1).Fits s, .range),
      ((s.argRegion 4 1).Apart (s.argRegion 0 1) ∧ (s.argRegion 4 1).Apart (s.argRegion 2 3),
        .overlap)] :=
  .check decide_eq_true_iff <| .and <| .check (s.needRange_ok _) <| .and <|
    .check (s.needRange_ok _) <| .check (s.needRange_ok _) <| .disjoint (by simp)

/-- R111. -/
theorem validation_rxor_follows : Follows (validation .rxor s)
    [(0 < s.arg 1, .emptyKey),
      ((s.argRegion 0 1).Fits s ∧ (s.argRegion 2 3).Fits s ∧ (s.argRegion 4 3).Fits s, .range),
      ((s.argRegion 4 3).Apart (s.argRegion 0 1) ∧ (s.argRegion 4 3).Apart (s.argRegion 2 3),
        .overlap)] :=
  .check (s.needPos_ok _ _) <| .and <| .check (s.needRange_ok _) <| .and <|
    .check (s.needRange_ok _) <| .check (s.needRange_ok _) <| .disjoint (by simp)

/-- R124. -/
theorem validation_hist_follows : Follows (validation .hist s)
    [((s.argRegion 0 1).Fits s ∧ (s.argSized 2 1028).Fits s, .range),
      ((s.argSized 2 1028).Apart (s.argRegion 0 1), .overlap)] :=
  .and <| .check (s.needRange_ok _) <| .check (s.needRange_ok _) <| .disjoint (by simp [histLen])

/-- R125. -/
theorem validation_relfreq_follows : Follows (validation .relfreq s)
    [(0 < s.arg 1, .emptyInput),
      ((s.argRegion 0 1).Fits s ∧ (s.argSized 2 2056).Fits s, .range),
      ((s.argSized 2 2056).Apart (s.argRegion 0 1), .overlap)] :=
  .check (s.needPos_ok _ _) <| .and <| .check (s.needRange_ok _) <| .check (s.needRange_ok _) <|
    .disjoint (by simp [freqLen])

/-- R126. -/
theorem validation_bcoef_follows : Follows (validation .bcoef s)
    [((s.argSized 0 2048).Fits s ∧ (s.argSized 1 2048).Fits s, .range),
      (s.tableOk (s.arg 0) = true ∧ s.tableOk (s.arg 1) = true, .badWeight)] :=
  .and <| .check (s.needRange_ok _) <| .check (s.needRange_ok _) <| .and <| .check .rfl <|
    .check .rfl .nil

/-- R127. -/
theorem validation_score_follows : Follows (validation .score s)
    [(0 < s.arg 1, .emptyInput), (s.snap.refValid = true, .refUnloaded),
      ((s.argRegion 0 1).Fits s, .range)] :=
  .check (s.needPos_ok _ _) <| .check s.needRef_ok <| .check (s.needRange_ok _) .nil

/-- R128. -/
theorem validation_ldref_follows : Follows (validation .ldref s)
    [((s.argSized 0 2048).Fits s, .range), (s.tableOk (s.arg 0) = true, .badWeight)] :=
  .check (s.needRange_ok _) <| .check .rfl .nil

/-- R151. -/
theorem validation_xscore_follows : Follows (validation .xscore s)
    [(0 < s.arg 1, .emptyKey), (0 < s.arg 3, .emptyInput), (s.snap.refValid = true, .refUnloaded),
      ((s.argRegion 0 1).Fits s ∧ (s.argRegion 2 3).Fits s ∧ (s.argRegion 4 3).Fits s, .range),
      ((s.argRegion 4 3).Apart (s.argRegion 0 1) ∧ (s.argRegion 4 3).Apart (s.argRegion 2 3),
        .overlap)] :=
  .check (s.needPos_ok _ _) <| .check (s.needPos_ok _ _) <| .check s.needRef_ok <| .and <|
    .check (s.needRange_ok _) <| .and <| .check (s.needRange_ok _) <| .check (s.needRange_ok _) <|
    .disjoint (by simp)

/-- R152. -/
theorem validation_bestxor_follows : Follows (validation .bestxor s) <|
    (0 < s.arg 1 ∧ 0 < s.arg 3, .emptyInput) :: (s.snap.refValid = true, .refUnloaded) ::
      (s.descTable.Fits s ∧ (s.argRegion 2 3).Fits s ∧ (s.argRegion 4 3).Fits s, .range) ::
      (s.descEntries.flatMap (entryRule s .emptyKey) ++
        [((s.argRegion 4 3).Apart s.descTable ∧ (s.argRegion 4 3).Apart (s.argRegion 2 3) ∧
          ∀ r ∈ s.descEntries, (s.argRegion 4 3).Apart r, .overlap)]) :=
  .and <| .check (s.needPos_ok _ _) <| .check (s.needPos_ok _ _) <| .check s.needRef_ok <| .and <|
    .check (s.needRange_ok _) <| .and <| .check (s.needRange_ok _) <| .check (s.needRange_ok _) <|
    .entries <| .disjoint (by simp)

/-- R153. -/
theorem validation_sbxor_follows : Follows (validation .sbxor s)
    [(0 < s.arg 1, .emptyInput), (s.snap.refValid = true, .refUnloaded),
      ((s.argRegion 0 1).Fits s ∧ (s.argRegion 2 1).Fits s, .range),
      ((s.argRegion 2 1).Apart (s.argRegion 0 1), .overlap)] :=
  .check (s.needPos_ok _ _) <| .check s.needRef_ok <| .and <| .check (s.needRange_ok _) <|
    .check (s.needRange_ok _) <| .disjoint (by simp)

/-- R154. -/
theorem validation_detect_follows : Follows (validation .detect s) <|
    (0 < s.arg 1, .emptyInput) :: (s.snap.refValid = true, .refUnloaded) ::
      (s.descTable.Fits s, .range) ::
      (s.descEntries.flatMap (entryRule s .emptyInput) ++
        [((s.argSized 2 (maxLen s.descEntries)).Fits s, .range),
          ((s.argSized 2 (maxLen s.descEntries)).Apart s.descTable ∧
            ∀ r ∈ s.descEntries, (s.argSized 2 (maxLen s.descEntries)).Apart r, .overlap)]) := by
  rw [validation, detectChecks, List.append_assoc, List.append_assoc]
  exact .check (s.needPos_ok _ _) <| .check s.needRef_ok <| .check (s.needRange_ok _) <|
    .entries <| .check (s.needRange_ok _) <| .disjoint (by simp)

end

/-! ## The statements -/

/-- Settles O41: the three conditions of XOR's rule in order (`validation_xor_follows`). -/
theorem xorReportsTheFirstFailedCheck : Obligations.XorReportsTheFirstFailedCheck := fun s =>
  have ends := (validation_xor_follows s).endsWith
  ⟨fun hlen => ends .lengthMismatch (.here hlen),
    fun hlen hfit => ends .range (.later hlen (.here hfit)),
    fun hlen hfit hapart => ends .overlap (.later hlen (.later hfit (.here hapart)))⟩

/-- BESTXOR past the checks that come before its descriptor entries (R152). -/
theorem bestxor_endsWith_of_entries {s : State} (hkeys : 0 < s.arg 1) (htext : 0 < s.arg 3)
    (href : s.snap.refValid = true)
    (hfit : s.descTable.Fits s ∧ (s.argRegion 2 3).Fits s ∧ (s.argRegion 4 3).Fits s) :
    (∀ j, j < s.arg 1 → (∀ k, k < j → (s.descEntry k).Fits s ∧ 0 < (s.descEntry k).len) →
      (¬(s.descEntry j).Fits s → EndsWith .bestxor 0x03 s) ∧
      ((s.descEntry j).Fits s → (s.descEntry j).len = 0 → EndsWith .bestxor 0x0B s)) ∧
    ((∀ j, j < s.arg 1 → (s.descEntry j).Fits s ∧ 0 < (s.descEntry j).len) →
      ¬((s.argRegion 4 3).Apart s.descTable ∧ (s.argRegion 4 3).Apart (s.argRegion 2 3) ∧
        ∀ j, j < s.arg 1 → (s.argRegion 4 3).Apart (s.descEntry j)) →
      EndsWith .bestxor 0x04 s) := by
  have ends (e : ErrCode) (h : Raises e _) : EndsWith .bestxor e.code s :=
    (validation_bestxor_follows s).endsWith e (.later ⟨hkeys, htext⟩ (.later href (.later hfit h)))
  refine ⟨fun j hj hpass => ⟨fun hj' => ?_, fun hj' hempty => ?_⟩, fun hall hapart => ?_⟩
  · exact ends .range ((State.raises_entry hfit.1 hj hpass (.here hj')).append_left _)
  · exact ends .emptyKey
      ((State.raises_entry hfit.1 hj hpass (.later hj' (.here (by omega)))).append_left _)
  · refine ends .overlap (.append_right (State.entries_hold hfit.1 hall) (.here ?_))
    rwa [State.forall_descEntries hfit.1]

/-- DETECT past the checks that come before its descriptor entries (R154). -/
theorem detect_endsWith_of_entries {s : State} (hlines : 0 < s.arg 1)
    (href : s.snap.refValid = true) (hfit : s.descTable.Fits s) :
    (∀ j, j < s.arg 1 → (∀ k, k < j → (s.descEntry k).Fits s ∧ 0 < (s.descEntry k).len) →
      (¬(s.descEntry j).Fits s → EndsWith .detect 0x03 s) ∧
      ((s.descEntry j).Fits s → (s.descEntry j).len = 0 → EndsWith .detect 0x06 s)) ∧
    (∀ M, (∀ j, j < s.arg 1 →
        (s.descEntry j).Fits s ∧ 0 < (s.descEntry j).len ∧ (s.descEntry j).len ≤ M) →
      (∃ j, j < s.arg 1 ∧ (s.descEntry j).len = M) →
      (¬(s.argSized 2 M).Fits s → EndsWith .detect 0x03 s) ∧
      ((s.argSized 2 M).Fits s →
        ¬((s.argSized 2 M).Apart s.descTable ∧
          ∀ j, j < s.arg 1 → (s.argSized 2 M).Apart (s.descEntry j)) →
        EndsWith .detect 0x04 s)) := by
  have ends (e : ErrCode) (h : Raises e _) : EndsWith .detect e.code s :=
    (validation_detect_follows s).endsWith e (.later hlines (.later href (.later hfit h)))
  refine ⟨fun j hj hpass => ⟨fun hj' => ?_, fun hj' hempty => ?_⟩, fun M hall hmax => ?_⟩
  · exact ends .range ((State.raises_entry hfit hj hpass (.here hj')).append_left _)
  · exact ends .emptyInput
      ((State.raises_entry hfit hj hpass (.later hj' (.here (by omega)))).append_left _)
  · obtain rfl := State.maxLen_descEntries hfit (fun j hj => (hall j hj).2.2) hmax
    have hhold := State.entries_hold (e := .emptyInput) hfit
      fun j hj => ⟨(hall j hj).1, (hall j hj).2.1⟩
    refine ⟨fun hM => ends .range (.append_right hhold (.here hM)), fun hM hapart => ?_⟩
    refine ends .overlap (.append_right hhold (.later hM (.here ?_)))
    rwa [State.forall_descEntries hfit]

/-- Settles O42: each clause is the first condition that does not hold in its command's rule. -/
theorem textCommandsReportTheFirstFailedCheck :
    Obligations.TextCommandsReportTheFirstFailedCheck := by
  intro s
  have rxor := (validation_rxor_follows s).endsWith
  have hist := (validation_hist_follows s).endsWith
  have relfreq := (validation_relfreq_follows s).endsWith
  have bcoef := (validation_bcoef_follows s).endsWith
  have score := (validation_score_follows s).endsWith
  have ldref := (validation_ldref_follows s).endsWith
  have xscore := (validation_xscore_follows s).endsWith
  have bestxor := (validation_bestxor_follows s).endsWith
  have sbxor := (validation_sbxor_follows s).endsWith
  have detect := (validation_detect_follows s).endsWith
  have notPos {i : Fin 8} (h : s.arg i = 0) : ¬0 < s.arg i := Nat.not_lt_of_le h.le
  have noRef (h : s.snap.refValid = false) : ¬s.snap.refValid = true := Bool.not_eq_true _ ▸ h
  exact ⟨
    -- RXOR
    fun hkey => rxor .emptyKey (.here (notPos hkey)),
    fun hkey hfit => rxor .range (.later hkey (.here hfit)),
    fun hkey hfit hapart => rxor .overlap (.later hkey (.later hfit (.here hapart))),
    -- HIST
    fun hfit => hist .range (.here hfit),
    fun hfit hapart => hist .overlap (.later hfit (.here hapart)),
    -- RELFREQ
    fun htext => relfreq .emptyInput (.here (notPos htext)),
    fun htext hfit => relfreq .range (.later htext (.here hfit)),
    fun htext hfit hapart => relfreq .overlap (.later htext (.later hfit (.here hapart))),
    -- BCOEF
    fun hfit => bcoef .range (.here hfit),
    fun v hfit hv hbad => bcoef .badWeight (.later hfit (.here fun ⟨hp, hq⟩ => hbad.elim
      (State.not_tableOk_of_badWeight hv · hp) (State.not_tableOk_of_badWeight hv · hq))),
    -- SCORE
    fun htext => score .emptyInput (.here (notPos htext)),
    fun htext href => score .refUnloaded (.later htext (.here (noRef href))),
    fun htext href hfit => score .range (.later htext (.later href (.here hfit))),
    -- LDREF
    fun hfit => ldref .range (.here hfit),
    -- XSCORE
    fun hkey => xscore .emptyKey (.here (notPos hkey)),
    fun hkey htext => xscore .emptyInput (.later hkey (.here (notPos htext))),
    fun hkey htext href => xscore .refUnloaded (.later hkey (.later htext (.here (noRef href)))),
    fun hkey htext href hfit =>
      xscore .range (.later hkey (.later htext (.later href (.here hfit)))),
    fun hkey htext href hfit hapart =>
      xscore .overlap (.later hkey (.later htext (.later href (.later hfit (.here hapart))))),
    -- BESTXOR
    fun hempty => bestxor .emptyInput (.here fun ⟨hkeys, htext⟩ =>
      hempty.elim (notPos · hkeys) (notPos · htext)),
    fun hkeys htext href =>
      bestxor .refUnloaded (.later ⟨hkeys, htext⟩ (.here (noRef href))),
    fun hkeys htext href hfit =>
      bestxor .range (.later ⟨hkeys, htext⟩ (.later href (.here hfit))),
    bestxor_endsWith_of_entries,
    -- SBXOR
    fun htext => sbxor .emptyInput (.here (notPos htext)),
    fun htext href => sbxor .refUnloaded (.later htext (.here (noRef href))),
    fun htext href hfit => sbxor .range (.later htext (.later href (.here hfit))),
    fun htext href hfit hapart =>
      sbxor .overlap (.later htext (.later href (.later hfit (.here hapart)))),
    -- DETECT
    fun hlines => detect .emptyInput (.here (notPos hlines)),
    fun hlines href => detect .refUnloaded (.later hlines (.here (noRef href))),
    fun hlines href hfit => detect .range (.later hlines (.later href (.here hfit))),
    detect_endsWith_of_entries⟩

end Sys2Proof.Machine
end

section
/-! PROOF. The symbol functions (R121 to R123). Both ways to cut a sequence into symbols give non-empty
pieces that join to it (L1), so there are never more symbols than bytes (`graphemes_length_le`). On bytes
below 0x80 the pieces are single bytes and CR LF, and without CR LF both symbol modes cut every byte. -/

namespace Sys2Proof.Machine

/-- No byte CR stands directly before a byte LF (R123). -/
def NoCrLf (s : List Byte) : Prop := ∀ i, ¬(s[i]? = some 0x0D#8 ∧ s[i + 1]? = some 0x0A#8)

theorem isAscii_iff (s : List Byte) : isAscii s = true ↔ ∀ b ∈ s, b.toNat < 0x80 := by
  simp [isAscii]

/-! ## L1: pieces -/

theorem asciiSegments_flatten (s : List Byte) : (asciiSegments s).flatten = s := by
  induction s using asciiSegments.induct with
  | case1 => rfl
  | case2 b => rfl
  | case3 b c rest hcrlf ih => rw [asciiSegments, if_pos hcrlf, List.flatten_cons, ih]; rfl
  | case4 b c rest hcrlf ih => rw [asciiSegments, if_neg hcrlf, List.flatten_cons, ih]; rfl

/-- L4: what a symbol is on bytes below 0x80. -/
theorem mem_asciiSegments {s g : List Byte} (h : g ∈ asciiSegments s) :
    g.length = 1 ∨ g = [0x0D#8, 0x0A#8] := by
  induction s using asciiSegments.induct with
  | case1 => cases h
  | case2 b =>
    obtain rfl := List.mem_singleton.mp h
    exact .inl rfl
  | case3 b c rest hcrlf ih =>
    rw [asciiSegments, if_pos hcrlf, hcrlf.1, hcrlf.2] at h
    rcases List.mem_cons.mp h with rfl | h
    · exact .inr rfl
    · exact ih h
  | case4 b c rest hcrlf ih =>
    rw [asciiSegments, if_neg hcrlf] at h
    rcases List.mem_cons.mp h with rfl | h
    · exact .inl rfl
    · exact ih h

theorem cutSymbols_flatten (brk : Nat → Bool) (k : Nat) (s : List Byte) :
    (cutSymbols brk k s).flatten = s := by
  induction s generalizing k with
  | nil => rfl
  | cons b rest ih =>
    have hrest := ih (k + 1)
    rw [cutSymbols]
    split
    · next hnil =>
      rw [hnil] at hrest
      rw [← hrest]
      rfl
    · next g gs hcons =>
      rw [hcons] at hrest
      rw [← hrest]
      split <;> rfl

theorem ne_nil_of_mem_cutSymbols {brk : Nat → Bool} {k : Nat} {s g : List Byte}
    (h : g ∈ cutSymbols brk k s) : g ≠ [] := by
  induction s generalizing k g with
  | nil => cases h
  | cons b rest ih =>
    rw [cutSymbols] at h
    split at h
    · obtain rfl := List.mem_singleton.mp h
      exact List.cons_ne_nil _ _
    · next g' gs hcons =>
      have hrest : ∀ x ∈ g' :: gs, x ≠ [] := fun x hx => ih (hcons ▸ hx)
      split at h
      · rcases List.mem_cons.mp h with rfl | h
        · exact List.cons_ne_nil _ _
        · exact hrest g h
      · rcases List.mem_cons.mp h with rfl | h
        · exact List.cons_ne_nil _ _
        · exact hrest g (List.mem_cons_of_mem _ h)

theorem graphemes_of_ascii {s : List Byte} (h : ∀ b ∈ s, b.toNat < 0x80) :
    graphemes s = asciiSegments s := if_pos ((isAscii_iff s).mpr h)

theorem graphemes_flatten (s : List Byte) : (graphemes s).flatten = s := by
  unfold graphemes
  split
  · exact asciiSegments_flatten s
  · exact cutSymbols_flatten _ _ s

theorem ne_nil_of_mem_graphemes {s g : List Byte} (h : g ∈ graphemes s) : g ≠ [] := by
  unfold graphemes at h
  split at h
  · rcases mem_asciiSegments h with hlen | rfl
    · exact List.ne_nil_of_length_pos (by omega)
    · exact List.cons_ne_nil _ _
  · exact ne_nil_of_mem_cutSymbols h

/-- Non-empty pieces are at most as many as the bytes. -/
theorem graphemes_length_le (s : List Byte) : (graphemes s).length ≤ s.length := by
  have hlen : s.length = ((graphemes s).map List.length).sum := by
    rw [← List.length_flatten, graphemes_flatten]
  rw [hlen, ← List.length_map (as := graphemes s) List.length]
  refine List.length_le_sum_of_one_le _ fun n hn => ?_
  obtain ⟨g, hg, rfl⟩ := List.mem_map.mp hn
  exact List.length_pos_of_ne_nil (ne_nil_of_mem_graphemes hg)

/-! ## L4: CR and LF -/

/-- A first symbol of one byte is the first byte. -/
theorem getElem?_zero_of_asciiSegments {s : List Byte} {b : Byte}
    (h : (asciiSegments s)[0]? = some [b]) : s[0]? = some b := by
  induction s using asciiSegments.induct with
  | case1 => cases h
  | case2 c => simpa [asciiSegments] using h
  | case3 c d rest hcrlf => simp [asciiSegments, if_pos hcrlf] at h
  | case4 c d rest hcrlf => simpa [asciiSegments, if_neg hcrlf] using h

theorem asciiSegments_no_crlf (s : List Byte) (i : Nat) :
    ¬((asciiSegments s)[i]? = some [0x0D#8] ∧ (asciiSegments s)[i + 1]? = some [0x0A#8]) := by
  induction s using asciiSegments.induct generalizing i with
  | case1 => simp [asciiSegments]
  | case2 b => simp [asciiSegments]
  | case3 b c rest hcrlf ih =>
    rw [asciiSegments, if_pos hcrlf]
    cases i with
    | zero => simp
    | succ i => exact ih i
  | case4 b c rest hcrlf ih =>
    rw [asciiSegments, if_neg hcrlf]
    cases i with
    | zero =>
      rintro ⟨hcr, hlf⟩
      have hb : b = 0x0D#8 := by simpa using hcr
      have hc : c = 0x0A#8 := by simpa using getElem?_zero_of_asciiSegments hlf
      exact hcrlf ⟨hb, hc⟩
    | succ i => exact ih i

/-! ## UFOLD -/

theorem ufold_of_ascii {s : List Byte} (h : ∀ b ∈ s, b.toNat < 0x80) : ufold s = s.map bfold :=
  if_pos ((isAscii_iff s).mpr h)

/-- Everything UFOLD can give: the byte fold, the free result, which keeps L2 and L5, or the input. -/
theorem ufold_cases (s : List Byte) :
    ufold s = s.map bfold ∨ (ufold s ≠ [] ∧ (graphemes (ufold s)).length ≤ s.length) ∨
      ufold s = s := by
  simp only [ufold]
  split_ifs with hascii hle
  · exact .inl rfl
  · exact .inr (.inl ⟨List.cons_ne_nil _ _, hle⟩)
  · exact .inr (.inr rfl)

theorem ufold_ne_nil {s : List Byte} (h : s ≠ []) : ufold s ≠ [] := by
  rcases ufold_cases s with hfold | ⟨hne, -⟩ | hself
  · rw [hfold]
    exact mt List.map_eq_nil_iff.mp h
  · exact hne
  · rwa [hself]

theorem graphemes_ufold_length_le (s : List Byte) : (graphemes (ufold s)).length ≤ s.length := by
  rcases ufold_cases s with hfold | ⟨-, hle⟩ | hself
  · rw [hfold]
    exact (graphemes_length_le _).trans (List.length_map _).le
  · exact hle
  · rw [hself]
    exact graphemes_length_le s

/-- Settles O16: L1 to L5 in order. -/
theorem symbolFunctionsKeepTheLaws : Obligations.SymbolFunctionsKeepTheLaws := by
  refine ⟨fun s => ⟨graphemes_flatten s, fun g => ne_nil_of_mem_graphemes⟩,
    ⟨rfl, fun s => ufold_ne_nil⟩, fun s => ufold_of_ascii, fun s hs => ?_, graphemes_ufold_length_le⟩
  rw [graphemes_of_ascii hs]
  exact ⟨fun g => mem_asciiSegments, asciiSegments_no_crlf s⟩

/-! ## The two symbol modes -/

theorem syms_length_le (p : List Byte) (sym : Bool) : (syms p sym).length ≤ p.length := by
  unfold syms
  split
  · exact (List.length_map _).le
  · exact graphemes_ufold_length_le p

theorem syms_ne_nil {p : List Byte} (h : p ≠ []) (sym : Bool) : syms p sym ≠ [] := by
  unfold syms
  split
  · exact mt List.map_eq_nil_iff.mp h
  · intro hnil
    have hflat := graphemes_flatten (ufold p)
    rw [hnil] at hflat
    exact ufold_ne_nil h hflat.symm

theorem binCount_le_length (ss : List (List Byte)) (v : Nat) : binCount ss v ≤ ss.length :=
  List.countP_le_length

/-- The fold of a byte is a small letter (R121) or the byte itself. -/
theorem bfold_cases (b : Byte) :
    (0x61 ≤ (bfold b).toNat ∧ (bfold b).toNat ≤ 0x7A) ∨ bfold b = b := by
  unfold bfold
  split
  · exact .inl (by bv_omega)
  · exact .inr rfl

theorem bfold_lt {b : Byte} (h : b.toNat < 0x80) : (bfold b).toNat < 0x80 := by
  rcases bfold_cases b with hletter | hself
  · omega
  · rwa [hself]

theorem eq_of_bfold_lt {b : Byte} (h : (bfold b).toNat < 0x61) : bfold b = b :=
  (bfold_cases b).resolve_left fun hletter => by omega

theorem NoCrLf.map_bfold {p : List Byte} (h : NoCrLf p) : NoCrLf (p.map bfold) := by
  have back {j : Nat} {c : Byte} (hc : c.toNat < 0x61) (hj : (p.map bfold)[j]? = some c) :
      p[j]? = some c := by
    rw [List.getElem?_map] at hj
    obtain ⟨b, hb, rfl⟩ := Option.map_eq_some_iff.mp hj
    rw [hb, eq_of_bfold_lt hc]
  exact fun i ⟨hcr, hlf⟩ => h i ⟨back (by decide) hcr, back (by decide) hlf⟩

theorem NoCrLf.tail {b : Byte} {s : List Byte} (h : NoCrLf (b :: s)) : NoCrLf s :=
  fun i => h (i + 1)

theorem asciiSegments_of_noCrLf {s : List Byte} (h : NoCrLf s) :
    asciiSegments s = s.map fun b => [b] := by
  induction s using asciiSegments.induct with
  | case1 => rfl
  | case2 b => rfl
  | case3 b c rest hcrlf ih =>
    obtain ⟨rfl, rfl⟩ := hcrlf
    exact absurd ⟨rfl, rfl⟩ (h 0)
  | case4 b c rest hcrlf ih =>
    rw [asciiSegments, if_neg hcrlf, ih h.tail]
    rfl

/-- Settles O17: the fold keeps CR and LF apart (`NoCrLf.map_bfold`), so L4 cuts every byte. -/
theorem symbolModesAgreeOnPlainAscii : Obligations.SymbolModesAgreeOnPlainAscii := by
  intro p hascii hplain
  have hfold : ∀ b ∈ p.map bfold, b.toNat < 0x80 :=
    List.forall_mem_map.mpr fun b hb => bfold_lt (hascii b hb)
  calc syms p false = graphemes (p.map bfold) := congrArg graphemes (ufold_of_ascii hascii)
    _ = asciiSegments (p.map bfold) := graphemes_of_ascii hfold
    _ = (p.map bfold).map fun b => [b] := asciiSegments_of_noCrLf (NoCrLf.map_bfold hplain)
    _ = syms p true := List.map_map

end Sys2Proof.Machine
end

section
/-! PROOF. Scores of legal weights (R126, R129): product, root and sum keep values that have sign bit 0 and
are no NaN (`NonNeg`), infinity included, since 0 times infinity and differences of infinities cannot
arise from them. -/

namespace Sys2Proof.Machine

/-- Sign bit 0 and no NaN: a finite value that is not negative, or plus infinity. -/
structure NonNeg (x : F64) : Prop where
  sign : f64Sign x = false
  mag : f64Mag x ≤ infMag

theorem NonNeg.not_nan {x : F64} (h : NonNeg x) : f64IsNaN x = false :=
  decide_eq_false (Nat.not_lt.mpr h.mag)

theorem nonNeg_pack {m : Nat} (h : m ≤ infMag) : NonNeg (f64Pack false m) := by
  have hm : m < 2 ^ 63 := h.trans_lt (by decide)
  exact ⟨f64Sign_pack hm, (f64Mag_pack hm).trans_le h⟩

/-- A value of `NonNeg` is finite or an infinity. -/
theorem NonNeg.finite_or_inf {x : F64} (h : NonNeg x) : f64Mag x < infMag ∨ f64IsInf x = true :=
  (Nat.lt_or_eq_of_le h.mag).imp_right decide_eq_true

theorem weightOk_iff (x : F64) : weightOk x = true ↔ f64Sign x = false ∧ f64Mag x < infMag := by
  simp [weightOk]

theorem nonNeg_mul {x y : F64} (hx : weightOk x = true) (hy : weightOk y = true) :
    NonNeg (f64Mul x y) := by
  obtain ⟨hsx, hfx⟩ := (weightOk_iff x).mp hx
  obtain ⟨hsy, hfy⟩ := (weightOk_iff y).mp hy
  rw [f64Mul_of_nonneg hsx hsy hfx hfy]
  exact nonNeg_pack (magOfRounded_le _ _)

theorem NonNeg.sqrt {x : F64} (h : NonNeg x) : NonNeg (f64Sqrt x) := by
  rcases Nat.eq_zero_or_pos (f64Mag x) with hzero | hpos
  · have hsqrt : f64Sqrt x = x := by simp [f64Sqrt, h.not_nan, hzero]
    rwa [hsqrt]
  · rcases h.finite_or_inf with hfin | hinf
    · rw [f64Sqrt_of_pos h.sign hpos hfin]
      exact nonNeg_pack (magOfRounded_le _ _)
    · have hsqrt : f64Sqrt x = x := by simp [f64Sqrt, h.not_nan, h.sign, hinf]
      rwa [hsqrt]

theorem NonNeg.add {x y : F64} (hx : NonNeg x) (hy : NonNeg y) : NonNeg (f64Add x y) := by
  rcases hx.finite_or_inf with hfx | hix
  · rcases hy.finite_or_inf with hfy | hiy
    · rw [f64Add_of_nonneg hx.sign hy.sign hfx hfy]
      exact nonNeg_pack (magOfRounded_le _ _)
    · have hadd : f64Add x y = y := by
        simp [f64Add, hx.not_nan, hy.not_nan, f64IsInf_of_finite hfx, hiy]
      rwa [hadd]
  · have hadd : f64Add x y = x := by
      simp [f64Add, hx.not_nan, hy.not_nan, hix, hx.sign, hy.sign]
    rwa [hadd]

/-- R129: every partial sum of a coefficient of legal weights is `NonNeg`. -/
theorem NonNeg.foldl_terms {p q : Nat → F64} {vs : List Nat} (hp : ∀ v ∈ vs, weightOk (p v) = true)
    (hq : ∀ v ∈ vs, weightOk (q v) = true) {acc : F64} (hacc : NonNeg acc) :
    NonNeg (vs.foldl (fun acc v => f64Add acc (f64Sqrt (f64Mul (p v) (q v)))) acc) := by
  induction vs generalizing acc with
  | nil => exact hacc
  | cons v vs ih =>
    obtain ⟨hpv, hps⟩ := List.forall_mem_cons.mp hp
    obtain ⟨hqv, hqs⟩ := List.forall_mem_cons.mp hq
    exact ih hps hqs (hacc.add (nonNeg_mul hpv hqv).sqrt)

/-- Settles O18: the coefficient is the last of the partial sums (`NonNeg.foldl_terms`). -/
theorem coefficientIsNeverNaN : Obligations.CoefficientIsNeverNaN := by
  intro p q hp hq
  have hbins (w : Nat → F64) (hw : ∀ v, v < 256 → weightOk (w v) = true) :
      ∀ v ∈ List.range 256, weightOk (w v) = true := fun v hv => hw v (List.mem_range.mp hv)
  have hzero : NonNeg 0 := ⟨by decide, by decide⟩
  have h : NonNeg (bcoef p q) := .foldl_terms (hbins p hp) (hbins q hq) hzero
  exact ⟨h.not_nan, h.sign⟩

end Sys2Proof.Machine
end

section
/-! PROOF. Relative frequencies (R125). Counts and totals are below 2^32, so as binary64 values they are
exact, and so much smaller than 2^53 that a quotient below 1 never rounds to 1.0
(`roundRatio_eq_one_iff`). -/

namespace Sys2Proof.Machine

/-- The magnitude code of 1.0. -/
def oneMag : Nat := 0x3FF0000000000000

theorem magUnits_oneMag : magUnits oneMag = 2 ^ 53 * 2 ^ 1021 := by
  have hcode : oneMag = 1021 * 2 ^ 52 + 2 ^ 53 := by decide
  rw [hcode, magUnits_code (by omega) (by omega)]

/-- The greatest value below 1.0 is 1 - 2^-53. -/
theorem magUnits_pred_oneMag : magUnits (oneMag - 1) = (2 ^ 53 - 1) * 2 ^ 1021 := by
  have hcode : oneMag - 1 = 1021 * 2 ^ 52 + (2 ^ 53 - 1) := by decide
  rw [hcode, magUnits_code (by omega) (by omega)]

/-- The middle between 1.0 and its predecessor, `x` and `w` in units of 2^-1074, exceeds every quotient
below 1 whose denominator is at most 2^53. -/
theorem lt_mul_add_pred {c n u w x : Nat} (hw : w = (2 ^ 53 - 1) * u) (hx : x = 2 ^ 53 * u)
    (hu : 0 < u) (hc : c < n) (hn : n ≤ 2 ^ 53) : 2 * (c * x * x) < n * x * (x + w) := by
  have hxw : x = w + u := by omega
  have hunit : n * u ≤ x := hx ▸ Nat.mul_le_mul_right u hn
  have hgap : c * x + x ≤ n * x := by
    rw [← Nat.succ_mul]
    exact Nat.mul_le_mul_right x hc
  have hsum : n * (x + w) + n * u = 2 * (n * x) := by rw [hxw]; ring
  calc 2 * (c * x * x) = 2 * (c * x) * x := by ring
    _ < n * (x + w) * x := Nat.mul_lt_mul_of_pos_right (by omega) (by omega)
    _ = n * x * (x + w) := by ring

/-- A quotient of at most 1 whose denominator is below 2^53 rounds to 1.0 only if it is 1: any other is
nearer to the predecessor of 1.0. -/
theorem roundRatio_eq_oneMag_iff {c n : Nat} (hpos : 0 < n) (hc : c ≤ n) (hn : n < 2 ^ 53) :
    roundRatio (c * 2 ^ 1074 * 2 ^ 1074) (n * 2 ^ 1074) = oneMag ↔ c = n := by
  have hone : 2 ^ 1074 = magUnits oneMag := by rw [magUnits_oneMag, ← pow_add]
  have hden : 0 < n * magUnits oneMag := by rw [← hone]; positivity
  rw [hone]
  constructor
  · intro hround
    by_contra hne
    obtain ⟨hside, -⟩ := roundRatio_nearest (num := c * magUnits oneMag * magUnits oneMag)
      (m := oneMag - 1) hden (by rw [hround]; decide) (by rw [hround]; decide)
    rw [hround] at hside
    have hmid := lt_mul_add_pred magUnits_pred_oneMag magUnits_oneMag (by positivity)
      (Nat.lt_of_le_of_ne hc hne) hn.le
    rcases hside with ⟨hless, -⟩ | ⟨-, hnear⟩
    · exact Nat.lt_asymm hless (magUnits_strictMono (by decide))
    · exact Nat.not_le_of_lt hmid hnear
  · rintro rfl
    exact roundRatio_exact hden (by decide)

theorem f64Pack_inj {a b : Nat} (ha : a ≤ infMag) (hb : b ≤ infMag) :
    f64Pack false a = f64Pack false b ↔ a = b := by
  have hmag {k : Nat} (hk : k ≤ infMag) : f64Mag (f64Pack false k) = k :=
    f64Mag_pack (hk.trans_lt (by decide))
  refine ⟨fun h => ?_, congrArg _⟩
  rw [← hmag ha, h, hmag hb]

/-- The quotient of two exact natural numbers. -/
theorem f64Div_ofNat {c n : Nat} (hpos : 0 < n) (hc : c < 2 ^ 53) (hn : n < 2 ^ 53) :
    f64Div (f64OfNat c) (f64OfNat n)
      = f64Pack false (roundRatio (c * 2 ^ 1074 * 2 ^ 1074) (n * 2 ^ 1074)) := by
  obtain ⟨hcs, hcf, hcv⟩ := f64OfNat_exact hc
  obtain ⟨hns, hnf, hnv⟩ := f64OfNat_exact hn
  have hmag : 0 < f64Mag (f64OfNat n) := by
    refine Nat.pos_of_ne_zero fun hzero => ?_
    rw [f64Scaled_eq, hzero] at hnv
    have : n * 2 ^ 1074 ≠ 0 := by positivity
    exact this hnv.symm
  rw [f64Div_of_nonneg hcs hns hcf hnf hmag, hcv, hnv]

theorem f64Div_ofNat_eq_one_iff {c n : Nat} (hpos : 0 < n) (hc : c ≤ n) (hn : n < 2 ^ 53) :
    f64Div (f64OfNat c) (f64OfNat n) = 0x3FF0000000000000#64 ↔ c = n := by
  have hone : 0x3FF0000000000000#64 = f64Pack false oneMag := by decide
  rw [← roundRatio_eq_oneMag_iff hpos hc hn, f64Div_ofNat hpos (hc.trans_lt hn) hn, hone]
  exact f64Pack_inj (magOfRounded_le _ _) (by decide)

theorem relfreq_eq_div (p : List Byte) (sym : Bool) (v : Nat) :
    relfreq p sym v
      = f64Div (f64OfNat (binCount (syms p sym) v)) (f64OfNat (syms p sym).length) := rfl

/-- Settles O11: the frequency is the quotient of the bin's count and the total, both below 2^32, and the
count is the total exactly when every symbol is counted. -/
theorem frequencyOneExactlyForOneBin : Obligations.FrequencyOneExactlyForOneBin := by
  intro p sym v hne hlen
  have hpos : 0 < (syms p sym).length := List.length_pos_of_ne_nil (syms_ne_nil hne sym)
  have hlt : (syms p sym).length < 2 ^ 53 :=
    ((syms_length_le p sym).trans_lt hlen).trans (by decide)
  rw [relfreq_eq_div, f64Div_ofNat_eq_one_iff hpos (binCount_le_length _ v) hlt]
  calc binCount (syms p sym) v = (syms p sym).length
    _ ↔ ∀ g ∈ syms p sym, (binOf g == v) = true := List.countP_eq_length
    _ ↔ ∀ g ∈ syms p sym, binOf g = v := by simp only [beq_iff_eq]

end Sys2Proof.Machine
end

section
/-! PROOF. The LanguageModel commands (R124 to R128). HIST and RELFREQ write a block of 257 fields of one
width, so each field reads back as it was written (`State.memRead_memWrite_fields`); the symbol total and
the counts are at most the text's length, an ARG register, and so fit 32 bits. -/

namespace Sys2Proof.Machine

/-! ## Fields of a block -/

theorem State.memRead_memWrite_middle (s : State) (a : Nat) (xs ys zs : List Byte) :
    (s.memWrite a (xs ++ ys ++ zs)).memRead (a + xs.length) ys.length = ys := by
  refine List.ext_getElem? fun i => ?_
  rcases Nat.lt_or_ge i ys.length with hi | hi
  · have hget : (xs ++ ys ++ zs)[xs.length + i]? = some ys[i] := by
      rw [List.append_assoc, List.getElem?_append_right (Nat.le_add_right _ _),
        Nat.add_sub_cancel_left, List.getElem?_append_left hi, List.getElem?_eq_getElem hi]
    rw [State.memRead_getElem? _ _ _ _ hi, Nat.add_assoc, s.byteAt_memWrite_of_getElem? a hget,
      List.getElem?_eq_getElem hi]
  · rw [List.getElem?_eq_none (by simpa using hi), List.getElem?_eq_none hi]

/-- Field `v` of a block of `n` fields of `k` bytes each (R76, R77). -/
theorem State.memRead_memWrite_fields (s : State) (a : Nat) {f : Nat → List Byte} {k n v : Nat}
    (hk : ∀ v, (f v).length = k) (hv : v < n) :
    (s.memWrite a ((List.range n).flatMap f)).memRead (a + k * v) k = f v := by
  obtain ⟨m, rfl⟩ : ∃ m, n = v + 1 + m := ⟨n - (v + 1), by omega⟩
  have h := s.memRead_memWrite_middle a ((List.range v).flatMap f) (f v)
    (((List.range m).map (v + 1 + ·)).flatMap f)
  rwa [length_flatMap_range f k hk, hk, Nat.mul_comm v, ← List.flatMap_singleton f v,
    ← List.flatMap_append, ← List.range_succ, ← List.flatMap_append, ← List.range_add,
    List.flatMap_singleton] at h

/-- A command whose whole effect is a block of `n` fields in the region `r`, and RES_LEN (R206). -/
theorem State.fields_finish (s : State) (r : Region) {f : Nat → List Byte} {k n : Nat} (total : Nat)
    (hk : ∀ v, (f v).length = k) (hr : n * k = r.len) :
    let t := ((s.memWrite r.addr ((List.range n).flatMap f)).setResLen total).finish
    (∀ v, v < n → t.memRead (r.addr + k * v) k = f v) ∧ SameSpOutside r s t ∧
      t.resLen = BitVec.ofNat 32 total ∧ t.resKey = s.resKey ∧ t.resIdx = s.resIdx ∧
      t.resScore = s.resScore ∧ Succeeded t ∧ SameRef s t ∧ SameSetup s t :=
  ⟨fun _ hv => s.memRead_memWrite_fields r.addr hk hv,
    s.sameSpOutside_memWrite r _ ((length_flatMap_range f k hk n).trans hr),
    rfl, rfl, rfl, rfl, State.succeeded_finish _, ⟨rfl, rfl⟩,
    ⟨rfl, rfl, rfl, rfl, rfl, rfl, rfl, rfl, rfl, rfl⟩⟩

/-! ## The size of counts -/

theorem State.symbolTotal_lt (s : State) : s.symbolTotal < 2 ^ 32 :=
  calc s.symbolTotal ≤ s.text.length := syms_length_le _ _
    _ = s.arg 1 := s.readRegion_length _
    _ < 2 ^ 32 := (s.snap.args.get 1).isLt

theorem State.toNat_symbolTotal (s : State) : (BitVec.ofNat 32 s.symbolTotal).toNat = s.symbolTotal :=
  Nat.mod_eq_of_lt s.symbolTotal_lt

/-! ## HIST and RELFREQ -/

/-- Settles O9: past its checks HIST is `histBody`, a block of 32-bit counts. -/
theorem histWritesTheCounts : Obligations.HistWritesTheCounts := by
  intro s htext hdst hapart
  have hv : firstFailure (validation .hist s) = none :=
    (histChecks_none_iff s).mpr ⟨htext, hdst, hapart⟩
  obtain ⟨hfields, hout, hlen, hrest⟩ := s.fields_finish (s.argSized 2 1028) (n := 257)
    (f := fun v => leBytes 4 (binCount (syms s.text s.snap.sym) v)) s.symbolTotal
    (fun v => leBytes_length 4 _) rfl
  refine ⟨histBody s, exec_of_valid nofun nofun hv, fun v hv => ?_, hout, ?_, hrest⟩
  · have hcount : binCount (syms s.text s.snap.sym) v < 256 ^ 4 :=
      (binCount_le_length _ v).trans_lt s.symbolTotal_lt
    calc (histBody s).u32At (s.arg 2 + 4 * v)
        = leNat (leBytes 4 (binCount (syms s.text s.snap.sym) v)) := congrArg leNat (hfields v hv)
      _ = binCount (syms s.text s.snap.sym) v := by rw [leNat_leBytes, Nat.mod_eq_of_lt hcount]
  · exact (congrArg BitVec.toNat hlen).trans s.toNat_symbolTotal

/-- Settles O10: past its checks RELFREQ is `relfreqBody`, a block of binary64 quotients. -/
theorem relfreqWritesTheFrequencies : Obligations.RelfreqWritesTheFrequencies := by
  intro s hpos htext hdst hapart
  have hv : firstFailure (validation .relfreq s) = none :=
    (relfreqChecks_none_iff s).mpr ⟨hpos, htext, hdst, hapart⟩
  obtain ⟨hfields, hout, hlen, hrest⟩ := s.fields_finish (s.argSized 2 2056) (n := 257)
    (f := fun v => leBytes 8 (relfreq s.text s.snap.sym v).toNat) s.symbolTotal
    (fun v => leBytes_length 8 _) rfl
  refine ⟨relfreqBody s, exec_of_valid nofun nofun hv, fun v hv => ?_, hout, ?_, hrest⟩
  · have hencoding : (relfreq s.text s.snap.sym v).toNat < 256 ^ 8 := BitVec.isLt _
    calc (relfreqBody s).f64At (s.arg 2 + 8 * v)
        = BitVec.ofNat 64 (leNat (leBytes 8 (relfreq s.text s.snap.sym v).toNat)) :=
          congrArg (fun bs => BitVec.ofNat 64 (leNat bs)) (hfields v hv)
      _ = relfreq s.text s.snap.sym v := by
        rw [leNat_leBytes, Nat.mod_eq_of_lt hencoding, BitVec.ofNat_toNat, BitVec.setWidth_eq]
  · exact (congrArg BitVec.toNat hlen).trans s.toNat_symbolTotal

/-! ## BCOEF and SCORE -/

/-- A command whose whole effect is RES_SCORE (R206). -/
theorem State.score_finish (s : State) (x : F64) :
    let t := (s.setResScore x).finish
    t.resScore = x ∧ SameSp s t ∧ t.resLen = s.resLen ∧ t.resKey = s.resKey ∧ t.resIdx = s.resIdx ∧
      Succeeded t ∧ SameRef s t ∧ SameSetup s t :=
  ⟨rfl, fun _ => rfl, rfl, rfl, rfl, State.succeeded_finish _, ⟨rfl, rfl⟩,
    ⟨rfl, rfl, rfl, rfl, rfl, rfl, rfl, rfl, rfl, rfl⟩⟩

/-- A command whose whole effect is RES_SCORE and RES_LEN (R206). -/
theorem State.score_len_finish (s : State) (x : F64) (n : Nat) :
    let t := ((s.setResScore x).setResLen n).finish
    t.resScore = x ∧ t.resLen = BitVec.ofNat 32 n ∧ SameSp s t ∧ t.resKey = s.resKey ∧
      t.resIdx = s.resIdx ∧ Succeeded t ∧ SameRef s t ∧ SameSetup s t :=
  ⟨rfl, rfl, fun _ => rfl, rfl, rfl, State.succeeded_finish _, ⟨rfl, rfl⟩,
    ⟨rfl, rfl, rfl, rfl, rfl, rfl, rfl, rfl, rfl, rfl⟩⟩

/-- Settles O12: past its checks BCOEF is `bcoefBody`, which sets RES_SCORE alone. -/
theorem bcoefScoresTheTables : Obligations.BcoefScoresTheTables := by
  intro s hp hq hpok hqok
  have hv : firstFailure (validation .bcoef s) = none :=
    (bcoefChecks_none_iff s).mpr ⟨hp, hq, (s.tableOk_iff _).mpr hpok, (s.tableOk_iff _).mpr hqok⟩
  exact ⟨bcoefBody s, exec_of_valid nofun nofun hv, s.score_finish _⟩

/-- Settles O13: past its checks SCORE is `scoreBody`, which sets RES_SCORE and RES_LEN. -/
theorem scoreScoresTheText : Obligations.ScoreScoresTheText := by
  intro s hpos href htext
  have hv : firstFailure (validation .score s) = none :=
    (scoreChecks_none_iff s).mpr ⟨hpos, href, htext⟩
  obtain ⟨hscore, hlen, hrest⟩ :=
    s.score_len_finish (escore s.text s.snap.sym s.snapRef) s.symbolTotal
  exact ⟨scoreBody s, exec_of_valid nofun nofun hv, hscore,
    (congrArg BitVec.toNat hlen).trans s.toNat_symbolTotal, hrest⟩

/-! ## LDREF -/

/-- Settles O14: past its checks LDREF is `ldrefBody`, which sets REF and REF_VALID. -/
theorem ldrefLoadsTheTable : Obligations.LdrefLoadsTheTable := by
  intro s htable hok
  have hv : firstFailure (validation .ldref s) = none :=
    (ldrefChecks_none_iff s).mpr ⟨htable, (s.tableOk_iff _).mpr hok⟩
  refine ⟨ldrefBody s, exec_of_valid nofun nofun hv, fun v => ?_, rfl, fun _ => rfl,
    ⟨rfl, rfl, rfl, rfl⟩, State.succeeded_finish _,
    ⟨rfl, rfl, rfl, rfl, rfl, rfl, rfl, rfl, rfl, rfl⟩⟩
  rw [ldrefBody, State.finish_ref, State.loadRef_ref, Vector.get_eq_getElem, Vector.getElem_ofFn]
  rfl

/-- Settles O15: with the table in range, the bad weight is LDREF's first failing check
(`validation_ldref_follows`). -/
theorem ldrefRejectsBadWeights : Obligations.LdrefRejectsBadWeights := fun s _ htable hv hbad =>
  (validation_ldref_follows s).endsWith .badWeight
    (.later htable (.here (State.not_tableOk_of_badWeight hv hbad)))

end Sys2Proof.Machine
end

section
/-! PROOF. Candidate selection (R150). An encoding that is no NaN has a rank, its magnitude code with its
sign, which `f64Gt` compares and which orders finite encodings as their values do, since the values of
magnitude codes rise strictly. The loop keeps the first greatest rank of the scores that it has seen
(`IsFirstMax`). -/

namespace Sys2Proof.Machine

/-! ## The numerical order -/

/-- The magnitude code of an encoding, with its sign. -/
def f64Rank (x : F64) : Int := if f64Sign x then -(f64Mag x : Int) else f64Mag x

theorem f64IsNaN_eq_false_iff {x : F64} : f64IsNaN x = false ↔ f64Mag x ≤ infMag := by
  rw [f64IsNaN, decide_eq_false_iff_not, Nat.not_lt]

theorem f64IsInf_iff {x : F64} : f64IsInf x = true ↔ f64Mag x = infMag := decide_eq_true_iff

theorem f64_ext {x y : F64} (hsign : f64Sign x = f64Sign y) (hmag : f64Mag x = f64Mag y) : x = y := by
  have hmsb (z : F64) : f64Sign z = decide (2 ^ 63 ≤ z.toNat) := BitVec.msb_eq_decide z
  rw [hmsb, hmsb, decide_eq_decide] at hsign
  have hx := x.isLt
  have hy := y.isLt
  simp only [f64Mag] at hmag
  exact BitVec.eq_of_toNat_eq (by omega)

section

variable {x y : F64}

theorem f64Gt_iff_rank (hx : f64IsNaN x = false) (hy : f64IsNaN y = false) :
    f64Gt x y = true ↔ f64Rank y < f64Rank x := by
  simp [f64Gt, f64Rank, hx, hy]

theorem f64Gt_eq_false_iff_rank (hx : f64IsNaN x = false) (hy : f64IsNaN y = false) :
    f64Gt x y = false ↔ f64Rank x ≤ f64Rank y := by
  rw [← Bool.not_eq_true, f64Gt_iff_rank hx hy, Int.not_lt]

/-- Ranks are in the order of the values: the value of a magnitude code rises strictly from 0. -/
theorem f64Rank_lt_iff_units : f64Rank y < f64Rank x ↔ f64Units y < f64Units x := by
  have hzero : magUnits 0 = 0 := rfl
  have hlt (a b : Nat) : magUnits a < magUnits b ↔ a < b := magUnits_strictMono.lt_iff_lt
  have hxy := hlt (f64Mag x) (f64Mag y)
  have hyx := hlt (f64Mag y) (f64Mag x)
  have hx := hlt 0 (f64Mag x)
  have hy := hlt 0 (f64Mag y)
  simp only [f64Rank, f64Units, f64Scaled_eq]
  split_ifs <;> omega

theorem natAbs_f64Rank_le (hy : f64IsNaN y = false) : (f64Rank y).natAbs ≤ infMag := by
  have := f64IsNaN_eq_false_iff.mp hy
  simp only [f64Rank]
  split <;> omega

theorem f64Rank_of_inf (hx : f64IsInf x = true) :
    f64Rank x = if f64Sign x then -(infMag : Int) else infMag := by
  rw [f64Rank, f64IsInf_iff.mp hx]

/-- Only the same infinity has an infinity's rank. -/
theorem f64Rank_eq_inf_iff (hx : f64IsInf x = true) : f64Rank y = f64Rank x ↔ y = x := by
  refine ⟨fun h => ?_, congrArg f64Rank⟩
  have hpos : 0 < infMag := by decide
  have hmag := f64IsInf_iff.mp hx
  simp only [f64Rank, hmag] at h
  refine f64_ext ?_ ?_
  · rw [Bool.eq_iff_iff]
    split_ifs at h <;> simp only [*] <;> omega
  · split_ifs at h <;> omega

/-- Plus infinity is above everything else and below nothing, minus infinity the other way round. -/
theorem f64Gt_inf (hx : f64IsInf x = true) (hy : f64IsNaN y = false) :
    (f64Gt x y = true ↔ f64Sign x = false ∧ y ≠ x) ∧
      (f64Gt y x = true ↔ f64Sign x = true ∧ y ≠ x) := by
  have hnan : f64IsNaN x = false := f64IsNaN_eq_false_iff.mpr (f64IsInf_iff.mp hx).le
  have hbound := natAbs_f64Rank_le hy
  rw [f64Gt_iff_rank hnan hy, f64Gt_iff_rank hy hnan, ne_eq, ← f64Rank_eq_inf_iff hx,
    f64Rank_of_inf hx]
  cases f64Sign x
  · simp only [Bool.false_eq_true, if_false, true_and, false_and, iff_false]
    omega
  · simp only [if_true, Bool.true_eq_false, true_and, false_and, iff_false]
    omega

end

/-! ## The loop -/

/-- `x` is the score at index `best`, of the greatest rank, and greater than those of lower indices. -/
structure IsFirstMax (scores : List F64) (best : Nat) (x : F64) : Prop where
  score : scores[best]? = some x
  max : ∀ y ∈ scores, f64Rank y ≤ f64Rank x
  first : ∀ y ∈ scores.take best, f64Rank y < f64Rank x

namespace IsFirstMax

variable {seen : List F64} {best : Nat} {x y : F64}

theorem lt_length (h : IsFirstMax seen best x) : best < seen.length :=
  (List.getElem?_eq_some_iff.mp h.score).1

theorem singleton (x : F64) : IsFirstMax [x] 0 x where
  score := rfl
  max := by simp
  first := nofun

/-- A greater score becomes the best one. -/
theorem push_greater (h : IsFirstMax seen best x) (hxy : f64Rank x < f64Rank y) :
    IsFirstMax (seen ++ [y]) seen.length y where
  score := List.getElem?_concat_length
  max z hz := by
    rcases List.mem_append.mp hz with hz | hz
    · exact (h.max z hz).trans hxy.le
    · rw [List.mem_singleton.mp hz]
  first z hz := by
    rw [List.take_left' rfl] at hz
    exact (h.max z hz).trans_lt hxy

/-- Any other score leaves the best one. -/
theorem push_other (h : IsFirstMax seen best x) (hyx : f64Rank y ≤ f64Rank x) :
    IsFirstMax (seen ++ [y]) best x where
  score := by rw [List.getElem?_append_left h.lt_length, h.score]
  max z hz := by
    rcases List.mem_append.mp hz with hz | hz
    · exact h.max z hz
    · rwa [List.mem_singleton.mp hz]
  first := by
    rw [List.take_append_of_le_length h.lt_length.le]
    exact h.first

/-- The loop goes on from the best of the scores that it has seen to the best of all. -/
theorem firstMaxFrom {xs : List F64} (h : IsFirstMax seen best x) (hx : f64IsNaN x = false)
    (hxs : ∀ y ∈ xs, f64IsNaN y = false) :
    ∃ z, IsFirstMax (seen ++ xs) (firstMaxFrom best x seen.length xs) z := by
  induction xs generalizing seen best x with
  | nil => exact ⟨x, by rwa [List.append_nil]⟩
  | cons y ys ih =>
    obtain ⟨hy, hys⟩ := List.forall_mem_cons.mp hxs
    have hlen : seen.length + 1 = (seen ++ [y]).length := by
      rw [List.length_append, List.length_singleton]
    rw [Machine.firstMaxFrom, hlen, List.append_cons]
    split
    · next hgt => exact ih (h.push_greater ((f64Gt_iff_rank hy hx).mp hgt)) hy hys
    · next hgt =>
      rw [Bool.not_eq_true, f64Gt_eq_false_iff_rank hy hx] at hgt
      exact ih (h.push_other hgt) hx hys

end IsFirstMax

theorem isFirstMax_firstMax {scores : List F64} (hne : scores ≠ [])
    (hnan : ∀ x ∈ scores, f64IsNaN x = false) :
    ∃ x, IsFirstMax scores (firstMax scores) x := by
  obtain ⟨x, xs, rfl⟩ := List.exists_cons_of_ne_nil hne
  obtain ⟨hx, hxs⟩ := List.forall_mem_cons.mp hnan
  exact (IsFirstMax.singleton x).firstMaxFrom hx hxs

/-- Settles O20: the loop ends with the first greatest rank (`isFirstMax_firstMax`), and ranks are in the
numerical order (`f64Rank_lt_iff_units`, `f64Gt_inf`). -/
theorem winnerIsTheFirstMaximum : Obligations.WinnerIsTheFirstMaximum := by
  refine ⟨fun scores hne hnan => ?_, fun x y hx hy => ?_, fun x y hx hy => f64Gt_inf hx hy⟩
  · obtain ⟨x, h⟩ := isFirstMax_firstMax hne hnan
    have hscore : scores.getD (firstMax scores) 0 = x := by
      rw [List.getD_eq_getElem?_getD, h.score, Option.getD_some]
    have hx : f64IsNaN x = false := hnan x (List.mem_of_getElem? h.score)
    rw [hscore]
    refine ⟨h.lt_length, fun j hj => ?_, fun j hj => ?_⟩
    · have hmem : scores.getD j 0 ∈ scores := by
        rw [List.getD_eq_getElem scores 0 hj]
        exact List.getElem_mem hj
      exact (f64Gt_eq_false_iff_rank (hnan _ hmem) hx).mpr (h.max _ hmem)
    · have hlt : j < scores.length := hj.trans h.lt_length
      rw [List.getD_eq_getElem scores 0 hlt, f64Gt_iff_rank hx (hnan _ (List.getElem_mem hlt))]
      exact h.first _ (List.mem_take_iff_getElem.mpr ⟨j, by omega, rfl⟩)
  · rw [f64Gt_iff_rank (f64IsNaN_of_finite hx) (f64IsNaN_of_finite hy)]
    exact f64Rank_lt_iff_units

end Sys2Proof.Machine
end

section
/-! PROOF. The XorBreaker commands (R151 to R155). Each completes with a plaintext in its output region and
result registers (`Delivers`). BESTXOR and DETECT take an entry of their table and SBXOR a byte, each the
one that `firstMax` selects from the scores in ascending order, so that SBXOR is BESTXOR over the one-byte
keys. -/

namespace Sys2Proof.Machine

/-! ## The index of the winner -/

theorem firstMaxFrom_lt {best j : Nat} (x : F64) (xs : List F64) (h : best < j) :
    firstMaxFrom best x j xs < j + xs.length := by
  induction xs generalizing best x j with
  | nil => exact h
  | cons y ys ih =>
    have hnext : j + (y :: ys).length = j + 1 + ys.length := by rw [List.length_cons]; omega
    rw [firstMaxFrom, hnext]
    split
    · exact ih y (Nat.lt_add_one j)
    · exact ih x (h.trans (Nat.lt_add_one j))

/-- The winner is a candidate, whatever the scores are. -/
theorem firstMax_map_range_lt {n : Nat} (f : Nat → F64) (h : 0 < n) :
    firstMax ((List.range n).map f) < n := by
  obtain ⟨n, rfl⟩ := Nat.exists_eq_add_one.mpr h
  rw [List.range_succ_eq_map, List.map_cons, firstMax]
  exact (firstMaxFrom_lt (f 0) _ Nat.one_pos).trans_eq (by simp [Nat.add_comm 1])

theorem getD_map_range {α : Type} {n j : Nat} (f : Nat → α) (d : α) (h : j < n) :
    ((List.range n).map f).getD j d = f j := by
  simp [List.getD_eq_getElem?_getD, h]

/-! ## The single-byte key search -/

section

variable (c : List Byte) (sym : Bool) (ref : Nat → F64)

theorem sbsearch_key_toNat : (sbsearch c sym ref).key.toNat
    = firstMax ((List.range 256).map fun k => escore (rxorBytes [BitVec.ofNat 8 k] c) sym ref) :=
  Nat.mod_eq_of_lt (firstMax_map_range_lt _ (by decide))

theorem sbsearch_plain : (sbsearch c sym ref).plain = rxorBytes [(sbsearch c sym ref).key] c := rfl

theorem sbsearch_score :
    (sbsearch c sym ref).score = escore (sbsearch c sym ref).plain sym ref := by
  simp only [sbsearch, getD_map_range _ _ (firstMax_map_range_lt _ (by decide : 0 < 256))]

end

/-! ## Descriptor entries as candidates -/

/-- The plaintext of BESTXOR's candidate `j` (R152). -/
def State.entryPlain (s : State) (j : Nat) : List Byte :=
  rxorBytes (s.readRegion (s.descEntry j)) (s.readRegion (s.argRegion 2 3))

/-- The search result of DETECT's line `j` (R154). -/
def State.lineResult (s : State) (j : Nat) : SearchResult :=
  sbsearch (s.readRegion (s.descEntry j)) s.snap.sym s.snapRef

theorem State.candidatePlains_of_fits {s : State} (h : s.descTable.Fits s) :
    s.candidatePlains = (List.range (s.arg 1)).map s.entryPlain := by
  rw [candidatePlains, s.descEntries_of_fits h, List.map_map]
  rfl

theorem State.lineResults_of_fits {s : State} (h : s.descTable.Fits s) :
    s.lineResults = (List.range (s.arg 1)).map s.lineResult := by
  rw [lineResults, s.descEntries_of_fits h, List.map_map]
  rfl

/-- With its table in range, BESTXOR past its checks takes the entry of the best score. -/
theorem bestxorBody_of_best {s : State} {best : Nat} (htable : s.descTable.Fits s)
    (hlt : best < s.arg 1)
    (hbest : best = firstMax ((List.range (s.arg 1)).map fun j =>
      escore (s.entryPlain j) s.snap.sym s.snapRef)) :
    bestxorBody s = ((((s.memWrite (s.arg 4) (s.entryPlain best)).setResIdx best).setResScore
      (escore (s.entryPlain best) s.snap.sym s.snapRef)).setResLen (s.arg 3)).finish := by
  simp only [bestxorBody, State.candidatePlains_of_fits htable, List.map_map, Function.comp_def,
    ← hbest, getD_map_range _ _ hlt]

/-- With its table in range, DETECT past its checks takes the line of the best score. -/
theorem detectBody_of_best {s : State} {best : Nat} {w : SearchResult} (htable : s.descTable.Fits s)
    (hlt : best < s.arg 1)
    (hbest : best = firstMax ((List.range (s.arg 1)).map fun j => (s.lineResult j).score))
    (hw : s.lineResult best = w) :
    detectBody s = (((((s.memWrite (s.arg 2) w.plain).setResIdx best).setResKey w.key).setResScore
      w.score).setResLen w.plain.length).finish := by
  simp only [detectBody, State.lineResults_of_fits htable, List.map_map, Function.comp_def,
    ← hbest, getD_map_range _ _ hlt, hw]

/-! ## Completion with results -/

/-- `t` is `s` with the output `bs` in the region `r`; the result registers and STATUS are left open. -/
structure Delivers (r : Region) (bs : List Byte) (s t : State) : Prop where
  holds : HoldsAt t r.addr bs
  outside : SameSpOutside r s t
  ref : SameRef s t
  setup : SameSetup s t

namespace Delivers

variable {r : Region} {bs : List Byte} {s t : State}

theorem memWrite (hlen : bs.length = r.len) : Delivers r bs s (s.memWrite r.addr bs) where
  holds := s.holdsAt_memWrite r.addr bs
  outside := s.sameSpOutside_memWrite r bs hlen
  ref := ⟨rfl, rfl⟩
  setup := ⟨rfl, rfl, rfl, rfl, rfl, rfl, rfl, rfl, rfl, rfl⟩

theorem setResLen (h : Delivers r bs s t) (n : Nat) : Delivers r bs s (t.setResLen n) :=
  { h with setup := { h.setup with } }

theorem setResKey (h : Delivers r bs s t) (k : Byte) : Delivers r bs s (t.setResKey k) :=
  { h with setup := { h.setup with } }

theorem setResIdx (h : Delivers r bs s t) (n : Nat) : Delivers r bs s (t.setResIdx n) :=
  { h with setup := { h.setup with } }

theorem setResScore (h : Delivers r bs s t) (x : F64) : Delivers r bs s (t.setResScore x) :=
  { h with setup := { h.setup with } }

theorem finish (h : Delivers r bs s t) : Delivers r bs s t.finish :=
  { h with setup := { h.setup with } }

end Delivers

theorem State.toNat_ofNat_of_lt_arg (s : State) {i : Fin 8} {n : Nat} (h : n < s.arg i) :
    (BitVec.ofNat 32 n).toNat = n :=
  Nat.mod_eq_of_lt (h.trans (s.snap.args.get i).isLt)

/-! ## The commands -/

/-- Settles O21: past its checks XSCORE is `xscoreBody`. -/
theorem xscoreScoresTheCandidate : Obligations.XscoreScoresTheCandidate := by
  intro s hkey htext href hK hM hdst hdstK hdstM
  have hv : firstFailure (validation .xscore s) = none :=
    (xscoreChecks_none_iff s).mpr ⟨hkey, htext, href, hK, hM, hdst, hdstK, hdstM⟩
  have h : Delivers (s.argRegion 4 3)
      (rxorBytes (s.readRegion (s.argRegion 0 1)) (s.readRegion (s.argRegion 2 3))) s (xscoreBody s) :=
    (((Delivers.memWrite (by simp [State.argRegion])).setResScore _).setResLen _).finish
  refine ⟨xscoreBody s, exec_of_valid nofun nofun hv, h.holds, h.outside, ?_, ?_, ?_, ?_,
    State.succeeded_finish _, h.ref, h.setup⟩ <;> simp [xscoreBody]

/-- Settles O22: past its checks BESTXOR is `bestxorBody`, whose candidates are the table's entries. -/
theorem bestxorFindsTheBestEntry : Obligations.BestxorFindsTheBestEntry := by
  intro s hkeys htext href htable hM hdst hentry hdstT hdstM
  have hv : firstFailure (validation .bestxor s) = none :=
    (bestxorChecks_none_iff s).mpr ⟨hkeys, htext, href, htable, hM, hdst,
      (State.forall_descEntries htable _).mpr fun j hj =>
        have ⟨hfit, hpos, _⟩ := hentry j hj
        ⟨hfit, hpos⟩,
      hdstT, hdstM, (State.forall_descEntries htable _).mpr fun j hj =>
        have ⟨_, _, hapart⟩ := hentry j hj
        hapart⟩
  obtain ⟨best, hbest⟩ : ∃ best, best = firstMax ((List.range (s.arg 1)).map fun j =>
    escore (s.entryPlain j) s.snap.sym s.snapRef) := ⟨_, rfl⟩
  have hlt : best < s.arg 1 := hbest ▸ firstMax_map_range_lt _ hkeys
  have hbody := bestxorBody_of_best htable hlt hbest
  have h : Delivers (s.argRegion 4 3) (s.entryPlain best) s (bestxorBody s) := by
    rw [hbody]
    exact ((((Delivers.memWrite (by simp [State.entryPlain, State.argRegion])).setResIdx
      _).setResScore _).setResLen _).finish
  refine ⟨bestxorBody s, best, exec_of_valid nofun nofun hv, hlt, hbest, h.holds, h.outside,
    ?_, ?_, ?_, ?_, State.succeeded_finish _, h.ref, h.setup⟩
  · simp [hbody, State.entryPlain]
  · simpa [hbody] using s.toNat_ofNat_of_lt_arg hlt
  · simp [hbody]
  · simp [hbody]

/-- Settles O23: past its checks SBXOR is `sbxorBody`, which completes with a `sbsearch`. -/
theorem sbxorFindsTheBestByte : Obligations.SbxorFindsTheBestByte := by
  intro s htext href hC hdst hapart
  have hv : firstFailure (validation .sbxor s) = none :=
    (sbxorChecks_none_iff s).mpr ⟨htext, href, hC, hdst, hapart⟩
  obtain ⟨w, hw⟩ : ∃ w, sbsearch (s.readRegion (s.argRegion 0 1)) s.snap.sym s.snapRef = w := ⟨_, rfl⟩
  have hbody : sbxorBody s = ((((s.memWrite (s.arg 2) w.plain).setResKey w.key).setResScore
      w.score).setResLen (s.arg 1)).finish := by rw [sbxorBody, hw]
  have hkey : (sbxorBody s).resKey = w.key := by simp [hbody]
  have hplain : w.plain = rxorBytes [(sbxorBody s).resKey] (s.readRegion (s.argRegion 0 1)) := by
    rw [hkey, ← hw, sbsearch_plain]
  have h : Delivers (s.argRegion 2 1) w.plain s (sbxorBody s) := by
    rw [hbody]
    exact ((((Delivers.memWrite (by simp [← hw, State.argRegion])).setResKey _).setResScore
      _).setResLen _).finish
  refine ⟨sbxorBody s, exec_of_valid nofun nofun hv, ?_, hplain ▸ h.holds, h.outside, ?_, ?_, ?_,
    State.succeeded_finish _, h.ref, h.setup⟩
  · rw [hkey, ← hw, sbsearch_key_toNat]
  · rw [← hplain, ← hw, ← sbsearch_score, hw]
    simp [hbody]
  · simp [hbody]
  · simp [hbody]

/-- Settles O24: past its checks DETECT is `detectBody`, whose search results are those of the table's
lines. -/
theorem detectFindsTheBestLine : Obligations.DetectFindsTheBestLine := by
  intro s hlines href htable hentry hdst hdstT
  have hv : firstFailure (validation .detect s) = none :=
    (detectChecks_none_iff s).mpr ⟨hlines, href, htable,
      (State.forall_descEntries htable _).mpr fun j hj =>
        have ⟨hfit, hpos, _⟩ := hentry j hj
        ⟨hfit, hpos⟩,
      hdst, hdstT, (State.forall_descEntries htable _).mpr fun j hj =>
        have ⟨_, _, _, hapart⟩ := hentry j hj
        hapart⟩
  obtain ⟨best, hbest⟩ : ∃ best, best = firstMax ((List.range (s.arg 1)).map fun j =>
    (s.lineResult j).score) := ⟨_, rfl⟩
  have hlt : best < s.arg 1 := hbest ▸ firstMax_map_range_lt _ hlines
  obtain ⟨w, hw⟩ : ∃ w, s.lineResult best = w := ⟨_, rfl⟩
  have hlen : w.plain.length = (s.descEntry best).len := by simp [← hw, State.lineResult]
  have hlen32 : w.plain.length < 2 ^ 32 := hlen.trans_lt ((leNat_lt _).trans_eq (by simp))
  have hbody := detectBody_of_best htable hlt hbest hw
  have h : Delivers (s.argSized 2 (s.descEntry best).len) w.plain s (detectBody s) := by
    rw [hbody]
    exact (((((Delivers.memWrite (r := s.argSized 2 _) hlen).setResIdx _).setResKey _).setResScore
      _).setResLen _).finish
  rw [State.lineResult] at hw
  refine ⟨detectBody s, best, exec_of_valid nofun nofun hv, hlt, hbest, hw ▸ h.holds, h.outside,
    ?_, ?_, ?_, ?_, State.succeeded_finish _, h.ref, h.setup⟩
  · simp [hbody, hw]
  · simp [hbody, hw]
  · simpa [hbody] using s.toNat_ofNat_of_lt_arg hlt
  · simpa [hbody, hlen] using hlen32

/-! ## SBXOR and BESTXOR -/

/-- Settles O25: over the one-byte keys both searches have the same scores, so their winners are one
key. -/
theorem sbxorIsBestxorOverAllBytes : Obligations.SbxorIsBestxorOverAllBytes := by
  intro s u hs hu hcount hkeys htext hsym href
  obtain ⟨hpos, hrefS, hC, hdst, hapart⟩ := (sbxorChecks_none_iff s).mp hs
  obtain ⟨hposU, hposM, hrefU, htable, hM, hdstU, hentry, hdstT, hdstM, hdstE⟩ :=
    (bestxorChecks_none_iff u).mp hu
  obtain ⟨t, ht, hkey, hholdsT, -, hscoreT, -⟩ := sbxorFindsTheBestByte s hpos hrefS hC hdst hapart
  obtain ⟨w, best, hw, hlt, hbest, hholdsW, -, hscoreW, hidx, -, hkeyW, -⟩ :=
    bestxorFindsTheBestEntry u hposU hposM hrefU htable hM hdstU
      (fun j hj =>
        have ⟨hfit, hlen⟩ := (State.forall_descEntries htable _).mp hentry j hj
        ⟨hfit, hlen, (State.forall_descEntries htable _).mp hdstE j hj⟩) hdstT hdstM
  have hsnapRef : u.snapRef = s.snapRef := congrArg weightsOf href
  rw [hcount] at hlt hbest
  have hwinner : best = t.resKey.toNat := by
    rw [hbest, hkey, htext, hsym, hsnapRef]
    refine congrArg firstMax (List.map_congr_left fun k hk => ?_)
    rw [hkeys k (List.mem_range.mp hk)]
  have hbestKey : u.readRegion (u.descEntry best) = [t.resKey] := by
    rw [hkeys best hlt, hwinner, BitVec.ofNat_toNat, BitVec.setWidth_eq]
  rw [hbestKey, htext] at hholdsW hscoreW
  refine ⟨t, w, ht, hw, ?_, ?_, hkeyW, ?_⟩
  · rw [hscoreW, hscoreT, hsym, hsnapRef]
  · refine BitVec.eq_of_toNat_eq ?_
    rw [hidx, hwinner, BitVec.toNat_setWidth_of_le (by decide)]
  · have hlenM := congrArg List.length htext
    simp only [HoldsAt, rxorBytes_length, State.readRegion_length] at hholdsT hholdsW hlenM
    exact (hlenM ▸ hholdsW).trans hholdsT.symm

end Sys2Proof.Machine
end

section
/-! PROOF. PAD and UNPAD (R170 to R172). A padding length is positive and at most the block size, so for a
block size up to 255 the padding byte holds it (`toNat_padByte`), and UNPAD reads it back from the last
byte (`padBytes_getLastD`). Each command is one output of `padBytes` or `unpadBytes`. -/

namespace Sys2Proof.Machine

/-! ## Padded byte sequences -/

/-- A block size of at most 255 lets one byte hold the padding length. -/
theorem toNat_padByte (n : Nat) {b : Nat} (hb : b ≤ 255) :
    (BitVec.ofNat 8 (padLen n b)).toNat = padLen n b :=
  Nat.mod_eq_of_lt ((padLen_le n b).trans_lt (Nat.lt_succ_of_le hb))

theorem padBytes_getD_message (m : List Byte) (b : Nat) {i : Nat} (h : i < m.length) :
    (padBytes m b).getD i 0 = m.getD i 0 :=
  List.getD_append _ _ _ _ h

theorem padBytes_getD_padding (m : List Byte) (b : Nat) {i : Nat} (h : i < padLen m.length b) :
    (padBytes m b).getD (m.length + i) 0 = BitVec.ofNat 8 (padLen m.length b) := by
  rw [padBytes, List.getD_append_right _ _ _ _ (Nat.le_add_right _ _), Nat.add_sub_cancel_left,
    List.getD_replicate _ h]

theorem padBytes_getLastD (m : List Byte) {b : Nat} (h : 0 < b) :
    (padBytes m b).getLastD 0 = BitVec.ofNat 8 (padLen m.length b) := by
  obtain ⟨k, hk⟩ := Nat.exists_eq_add_one.mpr (padLen_pos m.length b h)
  rw [padBytes, hk, List.replicate_succ', ← List.append_assoc, List.getLastD_concat]

theorem unpadBytes_getElem? (d : List Byte) {i : Nat} (h : i < (unpadBytes d).length) :
    (unpadBytes d)[i]? = d[i]? :=
  List.getElem?_take_of_lt (by rwa [unpadBytes_length] at h)

/-- Settles O28: the last byte of a padded sequence is its padding length, so `unpadBytes` takes off
exactly the padding. -/
theorem unpadUndoesPad : Obligations.UnpadUndoesPad := by
  intro m b hb hb255
  have hpos := padLen_pos m.length b hb
  have hlast : ((padBytes m b).getLastD 0).toNat = padLen m.length b := by
    rw [padBytes_getLastD m hb, toNat_padByte _ hb255]
  have hlen : 0 < (padBytes m b).length := by rw [padBytes_length]; omega
  refine ⟨?_, hlast, hpos, padLen_le _ _, Nat.le_of_dvd hlen (dvd_padBytes_length m b hb)⟩
  calc unpadBytes (padBytes m b) = (padBytes m b).take m.length := by
        rw [unpadBytes, hlast, padBytes_length, Nat.add_sub_cancel]
    _ = m := List.take_left

/-! ## The commands -/

theorem State.blkLen_le (s : State) : s.blkLen ≤ 255 := Nat.le_of_lt_succ s.snap.blksz.isLt

/-- Settles O26: past its checks PAD is `padBody`, an output of `padBytes`. -/
theorem padAppendsThePadding : Obligations.PadAppendsThePadding := by
  rintro s p hblk rfl hsrc hdst hapart
  have hv : firstFailure (validation .pad s) = none :=
    (padChecks_none_iff s).mpr ⟨hblk, hsrc, hdst, hapart⟩
  let m := s.readRegion (s.argRegion 0 1)
  have hm : m.length = s.arg 1 := s.readRegion_length _
  have hlen : (padBytes m s.blkLen).length = s.arg 1 + padLen (s.arg 1) s.blkLen := by
    rw [padBytes_length, hm]
  obtain ⟨hbyte, hframe⟩ := s.output_finish (s.argSized 2 (s.arg 1 + padLen (s.arg 1) s.blkLen)) _
    (fun i => (padBytes m s.blkLen).getD i 0) hlen fun i hi => by
      rw [List.getD_eq_getElem _ _ (hi.trans_eq hlen.symm), List.getElem?_eq_getElem]
  refine ⟨padBody s, exec_of_valid nofun nofun hv, fun i hi => ?_, fun i hi => ?_, hframe⟩
  · calc (padBody s).byteAt (s.arg 2 + i)
        = (padBytes m s.blkLen).getD i 0 := hbyte i (Nat.lt_add_right _ hi)
      _ = m.getD i 0 := padBytes_getD_message m _ (hi.trans_eq hm.symm)
      _ = s.byteAt (s.arg 0 + i) := s.readRegion_getD (s.argRegion 0 1) hi
  · calc ((padBody s).byteAt (s.arg 2 + s.arg 1 + i)).toNat
        = ((padBytes m s.blkLen).getD (m.length + i) 0).toNat := by
          rw [Nat.add_assoc, hm]; exact congrArg _ (hbyte _ (Nat.add_lt_add_left hi _))
      _ = padLen m.length s.blkLen := by
          rw [padBytes_getD_padding m _ (hm.symm ▸ hi), toNat_padByte _ s.blkLen_le]
      _ = padLen (s.arg 1) s.blkLen := by rw [hm]

/-- Settles O27: past its checks UNPAD is `unpadBody`, an output of `unpadBytes`. -/
theorem unpadTruncatesByTheLastByte : Obligations.UnpadTruncatesByTheLastByte := by
  rintro s p hpos rfl hle hsrc hdst hapart
  have hv : firstFailure (validation .unpad s) = none :=
    (unpadChecks_none_iff s).mpr ⟨hpos, hsrc, hle, hdst, hapart⟩
  have hlen : (unpadBytes (s.readRegion (s.argRegion 0 1))).length = s.arg 1 - s.unpadByte := by
    rw [unpadBytes_length, s.unpadByte_eq hpos, s.readRegion_length]; rfl
  refine ⟨unpadBody s, exec_of_valid nofun nofun hv,
    s.output_finish (s.argSized 2 (s.arg 1 - s.unpadByte)) _ _ hlen
      fun i (hi : i < s.arg 1 - s.unpadByte) => ?_⟩
  rw [unpadBytes_getElem? _ (hlen ▸ hi),
    s.readRegion_getElem? (s.argRegion 0 1) (hi.trans_le (Nat.sub_le _ _))]
  rfl

end Sys2Proof.Machine
end

section
/-! PROOF. The order of the checks of PAD, UNPAD, CBCENC and CBCDEC (R170, R171, R184, R185, R204): their
validations follow their rules, and CBCENC and CBCDEC validate at their start only. -/

namespace Sys2Proof.Machine

/-! ## The rules of the commands -/

section

variable (s : State)

/-- R170. -/
theorem validation_pad_follows : Follows (validation .pad s)
    [(0 < s.blkLen, .badBlksz),
      ((s.argRegion 0 1).Fits s ∧
        (s.argSized 2 (s.arg 1 + padLen (s.arg 1) s.blkLen)).Fits s, .range),
      ((s.argSized 2 (s.arg 1 + padLen (s.arg 1) s.blkLen)).Apart (s.argRegion 0 1), .overlap)] :=
  .check s.needBlk_ok <| .and <| .check (s.needRange_ok _) <| .check (s.needRange_ok _) <|
    .disjoint (by simp)

/-- R171. -/
theorem validation_unpad_follows : Follows (validation .unpad s)
    [(0 < s.arg 1, .unpadRange), ((s.argRegion 0 1).Fits s, .range),
      (s.unpadByte ≤ s.arg 1, .unpadRange),
      ((s.argSized 2 (s.arg 1 - s.unpadByte)).Fits s, .range),
      ((s.argSized 2 (s.arg 1 - s.unpadByte)).Apart (s.argRegion 0 1), .overlap)] :=
  .check (s.needPos_ok _ _) <| .check (s.needRange_ok _) <| .check decide_eq_true_iff <|
    .check (s.needRange_ok _) <| .disjoint (by simp)

/-- R184. -/
theorem validation_cbcenc_follows : Follows (validation .cbcenc s)
    [(0 < s.blkLen, .badBlksz), (s.arg 5 = s.blkLen, .invalidIVLength),
      ((s.argRegion 0 1).Fits s ∧ (s.argRegion 2 3).Fits s ∧ (s.argRegion 4 5).Fits s ∧
        (s.argSized 6 (s.arg 1 + padLen (s.arg 1) s.blkLen)).Fits s, .range),
      ((s.argSized 6 (s.arg 1 + padLen (s.arg 1) s.blkLen)).Apart (s.argRegion 0 1) ∧
        (s.argSized 6 (s.arg 1 + padLen (s.arg 1) s.blkLen)).Apart (s.argRegion 2 3) ∧
        (s.argSized 6 (s.arg 1 + padLen (s.arg 1) s.blkLen)).Apart (s.argRegion 4 5), .overlap)] :=
  .check s.needBlk_ok <| .check s.needIv_ok <| .and <| .check (s.needRange_ok _) <| .and <|
    .check (s.needRange_ok _) <| .and <| .check (s.needRange_ok _) <|
    .check (s.needRange_ok _) <| .disjoint (by simp)

/-- R185. -/
theorem validation_cbcdec_follows : Follows (validation .cbcdec s)
    [(0 < s.blkLen, .badBlksz), (s.arg 5 = s.blkLen, .invalidIVLength),
      (s.arg 1 % s.blkLen = 0, .invalidCiphertextLength), (0 < s.arg 1, .unpadRange),
      ((s.argRegion 0 1).Fits s ∧ (s.argRegion 2 3).Fits s ∧ (s.argRegion 4 5).Fits s ∧
        (s.argRegion 6 1).Fits s, .range),
      ((s.argRegion 6 1).Apart (s.argRegion 0 1) ∧ (s.argRegion 6 1).Apart (s.argRegion 2 3) ∧
        (s.argRegion 6 1).Apart (s.argRegion 4 5), .overlap)] :=
  .check s.needBlk_ok <| .check s.needIv_ok <| .check decide_eq_true_iff <|
    .check (s.needPos_ok _ _) <| .and <| .check (s.needRange_ok _) <| .and <|
    .check (s.needRange_ok _) <| .and <| .check (s.needRange_ok _) <|
    .check (s.needRange_ok _) <| .disjoint (by simp)

end

/-- A command at its start, CBCENC and CBCDEC included, ends with the error that its rule raises (R204). -/
theorem Follows.endsWith_of_fresh {i : Instr} {s : State} {rule : Rule} (hfresh : s.progress = .fresh)
    (h : Follows (validation i s) rule) (e : ErrCode) (hr : Raises e rule) : EndsWith i e.code s :=
  endsWith_of_firstFailure i s e (.inr hfresh) (h hr)

/-! ## The statement -/

/-- Settles O43: each clause is the first condition that does not hold in its command's rule. -/
theorem blockCommandsReportTheFirstFailedCheck :
    Obligations.BlockCommandsReportTheFirstFailedCheck := by
  rintro s p L rfl rfl
  have pad := (validation_pad_follows s).endsWith
  have unpad := (validation_unpad_follows s).endsWith
  refine ⟨
    -- PAD
    fun hblk => pad .badBlksz (.here hblk.not_gt),
    fun hblk hfit => pad .range (.later hblk (.here hfit)),
    fun hblk hfit hapart => pad .overlap (.later hblk (.later hfit (.here hapart))),
    -- UNPAD
    fun hsrc => unpad .unpadRange (.here hsrc.not_gt),
    fun hsrc hfit => unpad .range (.later hsrc (.here hfit)),
    fun hsrc hfit hlt =>
      unpad .unpadRange (.later hsrc (.later hfit (.here hlt.not_ge))),
    fun hsrc hfit hle hdst => unpad .range (.later hsrc (.later hfit (.later hle (.here hdst)))),
    fun hsrc hfit hle hdst hapart =>
      unpad .overlap (.later hsrc (.later hfit (.later hle (.later hdst (.here hapart))))),
    fun hfresh => ?_⟩
  have cbcenc := (validation_cbcenc_follows s).endsWith_of_fresh hfresh
  have cbcdec := (validation_cbcdec_follows s).endsWith_of_fresh hfresh
  exact ⟨
    -- CBCENC
    fun hblk => cbcenc .badBlksz (.here hblk.not_gt),
    fun hblk hiv => cbcenc .invalidIVLength (.later hblk (.here hiv)),
    fun hblk hiv hfit => cbcenc .range (.later hblk (.later hiv (.here hfit))),
    fun hblk hiv hfit hapart =>
      cbcenc .overlap (.later hblk (.later hiv (.later hfit (.here hapart)))),
    -- CBCDEC
    fun hblk => cbcdec .badBlksz (.here hblk.not_gt),
    fun hblk hiv => cbcdec .invalidIVLength (.later hblk (.here hiv)),
    fun hblk hiv hmod => cbcdec .invalidCiphertextLength (.later hblk (.later hiv (.here hmod))),
    fun hblk hiv hsrc =>
      have hmod : s.arg 1 % s.blkLen = 0 := by rw [hsrc, Nat.zero_mod]
      cbcdec .unpadRange (.later hblk (.later hiv (.later hmod (.here hsrc.not_gt)))),
    fun hblk hiv hmod hsrc hfit =>
      cbcdec .range (.later hblk (.later hiv (.later hmod (.later hsrc (.here hfit))))),
    fun hblk hiv hmod hsrc hfit hapart => cbcdec .overlap
      (.later hblk (.later hiv (.later hmod (.later hsrc (.later hfit (.here hapart))))))⟩

end Sys2Proof.Machine
end

section
/-! PROOF. The oracle port (R182, R205, R241). An answer to the outstanding request reaches the engine, every
other answer is discarded; and since requests are numbered in the order in which they are issued
(`IssueOrder`), an answer to an abandoned request never has the number of a later one. -/

namespace Sys2Proof.Machine

/-! ## Request numbers -/

/-- From `s` to `t` the count of requests does not fall, and it rises where `t` has come to wait. -/
def IssueOrder (s t : State) : Prop :=
  s.issued ≤ t.issued ∧ (s.engine ≠ .waitEcb → t.engine = .waitEcb → s.issued < t.issued)

namespace IssueOrder

variable {s t : State}

theorem of_same (hissued : t.issued = s.issued) (hengine : t.engine = s.engine) : IssueOrder s t :=
  ⟨hissued.ge, fun hs ht => absurd (hengine.symm.trans ht) hs⟩

theorem of_not_waiting (hissued : t.issued = s.issued) (hengine : t.engine ≠ .waitEcb) :
    IssueOrder s t :=
  ⟨hissued.ge, fun _ ht => absurd ht hengine⟩

theorem of_lt (h : s.issued < t.issued) : IssueOrder s t := ⟨h.le, fun _ _ => h⟩

theorem refl (s : State) : IssueOrder s s := of_same rfl rfl

end IssueOrder

/-! ## Commands -/

/-- Past its checks, a command other than CBCENC and CBCDEC completes without a request. -/
theorem commandBody_eq_finish {i : Instr} (s : State) (he : i ≠ .cbcenc) (hd : i ≠ .cbcdec) :
    ∃ u : State, commandBody i s = u.finish ∧ u.issued = s.issued := by
  cases i with
  | cbcenc => exact absurd rfl he
  | cbcdec => exact absurd rfl hd
  | _ => exact ⟨_, rfl, by simp⟩

theorem commandBody_issueOrder (i : Instr) (s : State) : IssueOrder s (commandBody i s) := by
  by_cases he : i = .cbcenc
  · subst he
    exact .of_lt (Nat.lt_succ_self s.issued)
  by_cases hd : i = .cbcdec
  · subst hd
    exact .of_lt (Nat.lt_succ_self s.issued)
  obtain ⟨u, hu, hissued⟩ := commandBody_eq_finish s he hd
  rw [hu]
  exact .of_not_waiting hissued (by simp)

theorem guarded_issueOrder {s t : State} (cs : List Check) (h : IssueOrder s t) :
    IssueOrder s (s.guarded cs t) := by
  rcases s.guarded_cases cs t with ⟨e, -, hg⟩ | ⟨-, hg⟩
  · rw [hg]
    exact .of_not_waiting rfl (by simp)
  · rwa [hg]

theorem cbcencNext_issueOrder (s : State) (l : CbcLocals) (c : List Byte) :
    IssueOrder s (cbcencNext s l c) := by
  unfold cbcencNext
  split
  · exact .of_lt (Nat.lt_succ_self s.issued)
  · exact .of_not_waiting rfl (by simp)

theorem cbcdecNext_issueOrder (s : State) (l : CbcLocals) (y : List Byte) :
    IssueOrder s (cbcdecNext s l y) := by
  simp only [cbcdecNext, cbcdecEnd]
  split
  · exact .of_lt (Nat.lt_succ_self s.issued)
  · split
    · exact .of_not_waiting rfl (by simp)
    · exact .of_not_waiting rfl (by simp)

theorem ecbFailed_issueOrder (s : State) (l : CbcLocals) : IssueOrder s (s.ecbFailed l) :=
  .of_not_waiting rfl (by simp [State.ecbFailed])

theorem exec_issueOrder {i : Instr} {s t : State} (hx : exec i s = .next t) : IssueOrder s t := by
  have hstart := guarded_issueOrder (validation i s) (commandBody_issueOrder i s)
  by_cases he : i = .cbcenc
  · subst he
    cases hx
    split
    · exact hstart
    · exact .refl s
    · exact cbcencNext_issueOrder s _ _
    · exact ecbFailed_issueOrder s _
  by_cases hd : i = .cbcdec
  · subst hd
    cases hx
    split
    · exact hstart
    · exact .refl s
    · exact cbcdecNext_issueOrder s _ _
    · exact ecbFailed_issueOrder s _
  rw [exec_of_not_cbc i s he hd] at hx
  cases hx
  exact hstart

theorem engineStep_issueOrder {s t : State} (hx : engineStep s = .next t) : IssueOrder s t := by
  rcases engineStep_cases s t hx with ⟨-, rfl⟩ | ⟨-, -, rfl⟩ | ⟨-, i, -, hexec⟩
  · exact .refl _
  · exact .of_not_waiting rfl (by simp)
  · exact exec_issueOrder hexec

/-! ## The host and the oracle -/

theorem softReset_issueOrder (s : State) : IssueOrder s s.softReset := by
  refine .of_not_waiting ?_ nofun
  change s.abort.issued = s.issued
  unfold State.abort
  split
  · split
    · exact s.scramble_issued _
    · rfl
  · rfl

theorem unlessBusy_issueOrder {s t : State} (h : IssueOrder s t) : IssueOrder s (s.unlessBusy t) := by
  unfold State.unlessBusy
  split
  · exact .refl s
  · exact h

theorem writeReg_issueOrder (s : State) (v : Word) (r : Reg) : IssueOrder s (s.writeReg v r) := by
  cases r with
  | ctrl =>
    change IssueOrder s (s.writeCtrl v)
    unfold State.writeCtrl
    split
    · exact softReset_issueOrder s
    · split
      · exact unlessBusy_issueOrder (.of_not_waiting rfl nofun)
      · exact .refl s
  | status =>
    refine unlessBusy_issueOrder ?_
    split <;> exact .refl s
  | cfg => exact unlessBusy_issueOrder (.refl s)
  | cmd => exact unlessBusy_issueOrder (.refl s)
  | blksz => exact unlessBusy_issueOrder (.refl s)
  | arg i => exact unlessBusy_issueOrder (.refl s)
  | _ => exact .refl s

theorem hostRead_issueOrder (off : Word) (w : Width) (s : State) :
    IssueOrder s (hostRead off w s) := by
  unfold hostRead
  split <;> exact .refl s

theorem hostWrite_issueOrder (off : Word) (w : Width) (v : Word) (s : State) :
    IssueOrder s (hostWrite off w v s) := by
  unfold hostWrite
  split
  · exact writeReg_issueOrder s v _
  · exact unlessBusy_issueOrder (t := s.memWrite _ _) (.refl s)
  · exact .refl s

theorem hostPoll_issueOrder (s : State) : IssueOrder s (hostPoll s) := by
  unfold hostPoll
  split <;> exact hostRead_issueOrder _ _ s

theorem oracleStep_issueOrder {n : Nat} {a : EcbAnswer} {s t : State}
    (hx : oracleStep n a s = .next t) : IssueOrder s t := by
  rcases oracleStep_cases n a s t hx with ⟨-, rfl⟩ | ⟨-, -, -, rfl⟩
  · exact .refl _
  · exact .of_not_waiting rfl nofun

/-! ## Every step -/

theorem inputStep_issueOrder {e : Input} {s t : State} (hx : inputStep e s = .next t) :
    IssueOrder s t := by
  cases e with
  | hostRead off w => cases hx; exact hostRead_issueOrder off w s
  | hostWrite off w v => cases hx; exact hostWrite_issueOrder off w v s
  | hostWait => cases hx; exact hostPoll_issueOrder s
  | engine => exact engineStep_issueOrder hx
  | oracle n a => exact oracleStep_issueOrder hx
  | powerOn => cases hx; exact .of_not_waiting rfl nofun

theorem step_issueOrder {s t : State} (hx : step s = .next t) : IssueOrder s t := by
  rcases step_cases s t hx with ⟨-, hengine⟩ | ⟨e, rest, -, hinput⟩
  · exact engineStep_issueOrder hengine
  · exact inputStep_issueOrder (s := { s with inputs := rest }) hinput

/-! ## Answers -/

/-- R182: an answer of BLKSZ bytes, or Fail, to the outstanding request reaches the engine. -/
theorem oracleStep_of_waiting {s : State} {a : EcbAnswer} (hwait : s.engine = .waitEcb)
    (ha : ∀ y, a = .ok y → y.length = s.blkLen) :
    oracleStep s.issued a s = .next (s.ecbAnswer a) := by
  cases a with
  | ok y => simp only [oracleStep, deliverAnswer, hwait, ha y rfl, if_true]
  | fail => simp only [oracleStep, deliverAnswer, hwait, if_true]

theorem State.ecbAnswer_progress {s : State} {l : CbcLocals} (h : s.progress = .waiting l)
    (a : EcbAnswer) : (s.ecbAnswer a).progress = .answered l a := by
  simp only [State.ecbAnswer, h]

/-- R205 b, R241 d: an answer to a request that is not outstanding is discarded. -/
theorem oracleStep_of_other {s : State} {n : Nat} (a : EcbAnswer)
    (h : s.engine ≠ .waitEcb ∨ n ≠ s.issued) : oracleStep n a s = .next s := by
  cases hengine : s.engine with
  | idle => simp only [oracleStep, hengine]
  | run => simp only [oracleStep, hengine]
  | waitEcb =>
    have hn : n ≠ s.issued := h.resolve_left (not_not_intro hengine)
    simp only [oracleStep, hengine, hn, if_false]

/-- R182: while it waits for an answer, the engine takes no step. -/
theorem engineStep_of_waiting {s : State} (h : s.engine = .waitEcb) : engineStep s = .next s := by
  simp only [engineStep, h]

/-- Settles O36: the cases of `oracleStep`, and the order of request numbers (`IssueOrder`). -/
theorem oracleAnswersReachTheWaitingEngine : Obligations.OracleAnswersReachTheWaitingEngine :=
  ⟨fun s _ a hwait hp ha => ⟨s.ecbAnswer a, oracleStep_of_waiting hwait ha, rfl, rfl,
      State.ecbAnswer_progress hp a, rfl, s.ecbAnswer_byteAt a, ⟨rfl, rfl⟩, ⟨rfl, rfl, rfl, rfl⟩,
      ⟨rfl, rfl, rfl, rfl, rfl, rfl, rfl, rfl, rfl, rfl⟩, rfl, rfl, rfl⟩,
    fun _ _ a h => oracleStep_of_other a h, fun _ => engineStep_of_waiting,
    fun _ _ => step_issueOrder⟩

end Sys2Proof.Machine
end

section
/-! PROOF. CBCENC and CBCDEC block by block (R183 to R185). The two commands differ in what they ask the
oracle, what they write and what they chain on; with these named by the direction of the request
(`EcbDir.request`, `EcbDir.output`, `EcbDir.chain`), each engine turn of both is one lemma: the start, an
answer that is not the last, the last answer. -/

namespace Sys2Proof.Machine

/-! ## The two directions -/

namespace EcbDir

/-- The command whose requests have this direction (R184, R185). -/
def command : EcbDir → Instr
  | .enc => .cbcenc
  | .dec => .cbcdec

/-- What is asked for the block `x` of the text, with the chaining block `prev`. -/
def request : EcbDir → List Byte → List Byte → List Byte
  | .enc, x, prev => xorBytes x prev
  | .dec, x, _ => x

/-- What is written after the answer `y`, with the chaining block `prev`. -/
def output : EcbDir → List Byte → List Byte → List Byte
  | .enc, y, _ => y
  | .dec, y, prev => xorBytes y prev

/-- The chaining block after the answer `y` for the block `x`: in both directions the ciphertext. -/
def chain : EcbDir → List Byte → List Byte → List Byte
  | .enc, _, y => y
  | .dec, x, _ => x

/-- The text that is cut into blocks: the padded plaintext or the ciphertext. -/
def text : EcbDir → State → List Byte
  | .enc, s => padBytes (s.readRegion (s.argRegion 0 1)) s.blkLen
  | .dec, s => s.readRegion (s.argRegion 0 1)

/-- The locals at the first request. -/
def firstLocals (d : EcbDir) (s : State) : CbcLocals :=
  { data := d.text s, key := s.readRegion (s.argRegion 2 3), prev := s.readRegion (s.argRegion 4 5),
    block := 0 }

/-- The locals after the answer `y` to a request that is not the last. -/
def nextLocals (d : EcbDir) (b : Nat) (l : CbcLocals) (y : List Byte) : CbcLocals :=
  { l with prev := d.chain (blk l.data b l.block) y, block := l.block + 1 }

/-- The end after the last write. -/
def ending : EcbDir → State → Nat → State
  | .enc, s, n => (s.setResLen n).finish
  | .dec, s, n => cbcdecEnd s n

end EcbDir

/-- The request for block `l.block`. -/
def State.cbcRequest (s : State) (d : EcbDir) (l : CbcLocals) : State :=
  s.ecbRequest d l (d.request (blk l.data s.blkLen l.block) l.prev)

/-- The place of block `l.block` in the output. -/
def State.blockRegion (s : State) (l : CbcLocals) : Region :=
  { addr := s.arg 6 + l.block * s.blkLen, len := s.blkLen }

/-- The write of the answer `y` for block `l.block`. -/
def State.writeBlock (s : State) (d : EcbDir) (l : CbcLocals) (y : List Byte) : State :=
  s.memWrite (s.blockRegion l).addr (d.output y l.prev)

section

variable {s : State} {d : EcbDir} {l : CbcLocals} {y : List Byte}

/-- Past its checks, a CBC command makes the output region DIRTY and issues its first request. -/
theorem exec_of_started (hfresh : s.progress = .fresh)
    (hv : firstFailure (validation d.command s) = none) : exec d.command s = .next
      (({ s with dirty := outputRegion d.command s }).cbcRequest d (d.firstLocals s)) := by
  rw [exec_fresh _ s hfresh, State.guarded_of_none _ _ _ hv]
  cases d <;> rfl

/-- An answer to a request that is not the last. -/
theorem exec_of_more (hp : s.progress = .answered l (.ok y))
    (hmore : (l.block + 1) * s.blkLen < l.data.length) : exec d.command s = .next
      ((s.writeBlock d l y).cbcRequest d (d.nextLocals s.blkLen l y)) := by
  cases d with
  | enc =>
    simp only [EcbDir.command, exec, execCbcenc, hp, cbcencNext, if_pos hmore]
    rfl
  | dec =>
    simp only [EcbDir.command, exec, execCbcdec, hp, cbcdecNext, if_pos hmore]
    rfl

/-- The answer to the last request. -/
theorem exec_of_last (hp : s.progress = .answered l (.ok y))
    (hlast : l.data.length ≤ (l.block + 1) * s.blkLen) : exec d.command s = .next
      (d.ending (s.writeBlock d l y) l.data.length) := by
  cases d with
  | enc =>
    simp only [EcbDir.command, exec, execCbcenc, hp, cbcencNext, if_neg hlast.not_gt]
    rfl
  | dec =>
    simp only [EcbDir.command, exec, execCbcdec, hp, cbcdecNext, if_neg hlast.not_gt]
    rfl

end

/-! ## What a request leaves -/

/-- The registers and the setup are those of `s`. -/
def Underway (s t : State) : Prop :=
  SameRef s t ∧ SameResults s t ∧ SameSetup s t ∧ t.done = s.done ∧ t.err = s.err ∧
    t.errCode = s.errCode

/-- A request is made after a change of the scratchpad and DIRTY at most. -/
theorem cbcRequest_underway (s : State) (sp : Memory) (dirty : Option Region) (d : EcbDir)
    (l : CbcLocals) : Underway s (({ s with sp := sp, dirty := dirty }).cbcRequest d l) :=
  ⟨⟨rfl, rfl⟩, ⟨rfl, rfl, rfl, rfl⟩, { SameSetup.refl s with }, rfl, rfl, rfl⟩

theorem EcbDir.length_output {d : EcbDir} {y prev : List Byte} {b : Nat} (hy : y.length = b)
    (hprev : prev.length = b) : (d.output y prev).length = b := by
  cases d with
  | enc => exact hy
  | dec => rw [output, xorBytes_length, hy, hprev, min_self]

theorem writeBlock_delivers {s : State} {d : EcbDir} {l : CbcLocals} {y : List Byte}
    (h : (d.output y l.prev).length = s.blkLen) :
    Delivers (s.blockRegion l) (d.output y l.prev) s (s.writeBlock d l y) :=
  .memWrite h

/-! ## The first requests -/

theorem blk_zero (x : List Byte) (b : Nat) : blk x b 0 = x.take b := by
  rw [blk, Nat.zero_mul, List.drop_zero]

theorem State.memRead_take (s : State) (a : Nat) {k n : Nat} (h : k ≤ n) :
    (s.memRead a n).take k = s.memRead a k := by
  rw [State.memRead, ← List.map_take, List.take_range, Nat.min_eq_left h, State.memRead]

/-- A CBCENC that is ready passes its checks. -/
theorem CbcReady.cbcenc_valid {s : State}
    (h : CbcReady .cbcenc (s.argSized 6 (s.arg 1 + padLen (s.arg 1) s.blkLen)) s) :
    firstFailure (validation .cbcenc s) = none :=
  (cbcencChecks_none_iff s).mpr ⟨h.blkPos, h.iv, h.textFits, h.keyFits, h.ivFits, h.outFits,
    h.apartText, h.apartKey, h.apartIv⟩

/-- A CBCDEC that is ready and has whole blocks, at least one, passes its checks. -/
theorem CbcReady.cbcdec_valid {s : State} (h : CbcReady .cbcdec (s.argRegion 6 1) s)
    (hpos : 0 < s.arg 1) (hwhole : s.arg 1 % s.blkLen = 0) :
    firstFailure (validation .cbcdec s) = none :=
  (cbcdecChecks_none_iff s).mpr ⟨h.blkPos, h.iv, hwhole, hpos, h.textFits, h.keyFits, h.ivFits,
    h.outFits, h.apartText, h.apartKey, h.apartIv⟩

/-- Settles O29: the start of the direction ENC. -/
theorem cbcencIssuesTheFirstRequest : Obligations.CbcencIssuesTheFirstRequest := by
  intro s h
  refine ⟨_, exec_of_started (d := .enc) h.fresh h.cbcenc_valid, rfl, ?_, rfl, rfl, fun _ => rfl,
    cbcRequest_underway s _ _ _ _⟩
  rw [← blk_zero]
  rfl

/-- Settles O32: the start of the direction DEC. -/
theorem cbcdecIssuesTheFirstRequest : Obligations.CbcdecIssuesTheFirstRequest := by
  intro s h hpos hwhole
  have hle : s.blkLen ≤ s.arg 1 := Nat.le_of_dvd hpos (Nat.dvd_of_mod_eq_zero hwhole)
  refine ⟨_, exec_of_started (d := .dec) h.fresh (h.cbcdec_valid hpos hwhole), rfl, ?_, rfl, rfl,
    fun _ => rfl, cbcRequest_underway s _ _ _ _⟩
  rw [← s.memRead_take _ hle, ← blk_zero]
  rfl

/-! ## Answers that are not the last -/

/-- Settles O30: an answer in the direction ENC chains on itself. -/
theorem cbcencContinues : Obligations.CbcencContinues := by
  intro s l c hp hc hmore
  have hw := writeBlock_delivers (s := s) (d := .enc) (l := l) hc
  exact ⟨_, exec_of_more (d := .enc) hp hmore, rfl, rfl, rfl, hw.holds, hw.outside, rfl,
    cbcRequest_underway s _ _ _ _⟩

/-- Settles O33: an answer in the direction DEC is not what the next request chains on. -/
theorem cbcdecContinues : Obligations.CbcdecContinues := by
  intro s l y hp hy hprev hmore
  have hw := writeBlock_delivers (d := .dec) (EcbDir.length_output hy hprev)
  exact ⟨_, exec_of_more (d := .dec) hp hmore, rfl, rfl, rfl, hw.holds, hw.outside, rfl,
    cbcRequest_underway s _ _ _ _⟩

/-! ## Last answers -/

/-- The last byte of a sequence in the scratchpad. -/
theorem HoldsAt.getLastD {s : State} {a : Nat} {bs : List Byte} (h : HoldsAt s a bs)
    (hpos : 0 < bs.length) : bs.getLastD 0 = s.byteAt (a + bs.length - 1) := by
  obtain ⟨n, hn⟩ := Nat.exists_eq_add_one.mpr hpos
  have hread : bs = s.memRead a (n + 1) := by rw [← hn, h]
  rw [hread, State.memRead_length, State.memRead, List.range_succ, List.map_append, List.map_singleton,
    List.getLastD_concat]
  rfl

theorem Delivers.raiseError {r : Region} {bs : List Byte} {s t : State} (h : Delivers r bs s t)
    (c : ErrCode) : Delivers r bs s (t.raiseError c) :=
  { h with setup := { h.setup with } }

/-- What both ends of CBCDEC keep (R185, R207 c): what has been delivered stays. -/
theorem Delivers.cbcdecEnd {r : Region} {bs : List Byte} {s t : State} (h : Delivers r bs s t)
    (n : Nat) : Delivers r bs s (cbcdecEnd t n) := by
  simp only [Machine.cbcdecEnd]
  split
  · exact h.raiseError _
  · exact (h.setResLen _).finish

theorem cbcdecEnd_otherResults (s : State) (n : Nat) :
    (cbcdecEnd s n).resKey = s.resKey ∧ (cbcdecEnd s n).resIdx = s.resIdx ∧
      (cbcdecEnd s n).resScore = s.resScore := by
  simp only [cbcdecEnd]
  split <;> exact ⟨rfl, rfl, rfl⟩

/-- CBCDEC's end where the last decrypted byte is at most the length (R185). -/
theorem cbcdecEnd_of_le {s : State} {n : Nat} (h : (s.byteAt (s.arg 6 + n - 1)).toNat ≤ n) :
    cbcdecEnd s n = (s.setResLen (n - (s.byteAt (s.arg 6 + n - 1)).toNat)).finish :=
  if_neg h.not_gt

/-- CBCDEC's end where the last decrypted byte exceeds the length (R207 c). -/
theorem cbcdecEnd_of_gt {s : State} {n : Nat} (h : n < (s.byteAt (s.arg 6 + n - 1)).toNat) :
    cbcdecEnd s n = s.raiseError .unpadRange :=
  if_pos h

/-- The two ends of CBCDEC, told by the last of the decrypted bytes `bs` at `a` (R185). -/
theorem cbcdecEnd_of_holdsAt {s : State} {a n : Nat} {bs : List Byte} (h : HoldsAt s a bs)
    (hpos : 0 < bs.length) (hend : a + bs.length = s.arg 6 + n) :
    ((bs.getLastD 0).toNat ≤ n → Succeeded (cbcdecEnd s n) ∧
        (cbcdecEnd s n).resLen = BitVec.ofNat 32 (n - (bs.getLastD 0).toNat)) ∧
      (n < (bs.getLastD 0).toNat →
        Failed 0x0C (cbcdecEnd s n) ∧ (cbcdecEnd s n).resLen = s.resLen) := by
  rw [h.getLastD hpos, hend]
  refine ⟨fun hle => ?_, fun hgt => ?_⟩
  · rw [cbcdecEnd_of_le hle]
    exact ⟨State.succeeded_finish _, rfl⟩
  · rw [cbcdecEnd_of_gt hgt]
    exact ⟨s.failed_raiseError .unpadRange, rfl⟩

/-- Settles O31: the last answer in the direction ENC. -/
theorem cbcencCompletes : Obligations.CbcencCompletes := by
  intro s l c hp hc hlast
  have hw := ((writeBlock_delivers (s := s) (d := .enc) (l := l) hc).setResLen l.data.length).finish
  exact ⟨_, exec_of_last (d := .enc) hp hlast, State.succeeded_finish _, hw.holds, hw.outside, rfl,
    rfl, rfl, rfl, hw.ref, hw.setup⟩

/-- Settles O34: the last answer in the direction DEC; the block just written ends at the last decrypted
byte. -/
theorem cbcdecCompletes : Obligations.CbcdecCompletes := by
  intro s l y hp hy hprev hpos hlen
  have hx : (xorBytes y l.prev).length = s.blkLen := EcbDir.length_output (d := .dec) hy hprev
  have hw := writeBlock_delivers (d := .dec) hx
  have hdone := hw.cbcdecEnd l.data.length
  obtain ⟨hle, hgt⟩ := cbcdecEnd_of_holdsAt (n := l.data.length) hw.holds (hx ▸ hpos) <|
    show s.arg 6 + l.block * s.blkLen + (xorBytes y l.prev).length = s.arg 6 + l.data.length by
      rw [hx, hlen, Nat.succ_mul, Nat.add_assoc]
  obtain ⟨hkey, hidx, hscore⟩ := cbcdecEnd_otherResults (s.writeBlock .dec l y) l.data.length
  exact ⟨_, exec_of_last (d := .dec) hp hlen.le, hdone.holds, hdone.outside, hle, hgt, hkey, hidx,
    hscore, hdone.ref, hdone.setup⟩

end Sys2Proof.Machine
end

section
/-! PROOF. Runs of CBCENC and CBCDEC against a functional oracle (R184, R185). One block takes an answer and
an engine turn (`CbcWaiting.drive_block`); by induction on the blocks still to come, the run delivers the
fold of the command over its blocks (`EcbDir.fold`) and comes to its end. -/

namespace Sys2Proof.Machine

/-! ## The fold over blocks -/

namespace EcbDir

/-- What a command writes for its blocks in turn, where `f` gives the oracle's answers. -/
def fold (d : EcbDir) (f : List Byte → List Byte) : List Byte → List (List Byte) → List Byte
  | _, [] => []
  | prev, x :: xs =>
    d.output (f (d.request x prev)) prev ++ d.fold f (d.chain x (f (d.request x prev))) xs

theorem fold_enc (f : List Byte → List Byte) (prev : List Byte) (xs : List (List Byte)) :
    enc.fold f prev xs = cbcFoldEnc f prev xs := by
  induction xs generalizing prev with
  | nil => rfl
  | cons x xs ih => simp only [fold, cbcFoldEnc, ih, output, request, chain]

theorem fold_dec (f : List Byte → List Byte) (prev : List Byte) (xs : List (List Byte)) :
    dec.fold f prev xs = cbcFoldDec f prev xs := by
  induction xs generalizing prev with
  | nil => rfl
  | cons x xs ih => simp only [fold, cbcFoldDec, ih, output, request, chain]

section

variable {d : EcbDir} {x y prev : List Byte} {b : Nat}

theorem length_request (hx : x.length = b) (hprev : prev.length = b) :
    (d.request x prev).length = b := by
  cases d with
  | enc => rw [request, xorBytes_length, hx, hprev, min_self]
  | dec => exact hx

theorem length_chain (hx : x.length = b) (hy : y.length = b) : (d.chain x y).length = b := by
  cases d with
  | enc => exact hy
  | dec => exact hx

theorem length_fold {f : List Byte → List Byte} {xs : List (List Byte)}
    (hf : ∀ x, x.length = b → (f x).length = b) (hprev : prev.length = b)
    (hxs : ∀ x ∈ xs, x.length = b) : (d.fold f prev xs).length = xs.length * b := by
  induction xs generalizing prev with
  | nil => simp [fold]
  | cons x xs ih =>
    obtain ⟨hx, hrest⟩ := List.forall_mem_cons.mp hxs
    have hy := hf _ (length_request (d := d) hx hprev)
    rw [fold, List.length_append, length_output hy hprev, ih (length_chain hx hy) hrest,
      List.length_cons, Nat.succ_mul, Nat.add_comm]

end

end EcbDir

theorem length_blocksOf (x : List Byte) (b : Nat) : (blocksOf x b).length = x.length / b := by
  simp [blocksOf]

theorem length_of_mem_blocksOf {x : List Byte} {b : Nat} : ∀ y ∈ blocksOf x b, y.length = b := by
  intro y hy
  obtain ⟨i, hi, rfl⟩ := List.mem_map.mp hy
  refine blk_length x b i ?_
  calc (i + 1) * b ≤ x.length / b * b := Nat.mul_le_mul_right b (List.mem_range.mp hi)
    _ ≤ x.length := Nat.div_mul_le_self _ _

/-! ## Outputs in turn -/

theorem SameRef.trans {s t u : State} (h₁ : SameRef s t) (h₂ : SameRef t u) : SameRef s u :=
  ⟨h₂.1.trans h₁.1, h₂.2.trans h₁.2⟩

theorem SameSetup.trans {s t u : State} (h₁ : SameSetup s t) (h₂ : SameSetup t u) :
    SameSetup s u where
  sym := h₂.sym.trans h₁.sym
  ie := h₂.ie.trans h₁.ie
  cmd := h₂.cmd.trans h₁.cmd
  blksz := h₂.blksz.trans h₁.blksz
  args := h₂.args.trans h₁.args
  bufSize := h₂.bufSize.trans h₁.bufSize
  snap := h₂.snap.trans h₁.snap
  inputs := h₂.inputs.trans h₁.inputs
  hostResp := h₂.hostResp.trans h₁.hostResp
  epoch := h₂.epoch.trans h₁.epoch

theorem SameSetup.arg {s t : State} (h : SameSetup s t) (i : Fin 8) : t.arg i = s.arg i := by
  rw [State.arg, h.snap, State.arg]

theorem State.memRead_add (s : State) (a n m : Nat) :
    s.memRead a (n + m) = s.memRead a n ++ s.memRead (a + n) m := by
  simp [State.memRead, List.range_add, Function.comp_def, Nat.add_assoc]

namespace Delivers

variable {r : Region} {bs : List Byte} {s t : State}

/-- An output and then another in the region that follows. -/
theorem append {u : State} {r' : Region} {bs' : List Byte} (h : Delivers r bs s t)
    (h' : Delivers r' bs' t u) (hlen : bs.length = r.len) (hadj : r'.addr = r.addr + r.len) :
    Delivers { addr := r.addr, len := r.len + r'.len } (bs ++ bs') s u where
  holds := by
    have hfirst : u.memRead r.addr r.len = t.memRead r.addr r.len :=
      State.memRead_congr t u _ _ fun x _ hx => h'.outside x (.inl (hadj ▸ hx))
    have hholds := h.holds
    have hholds' := h'.holds
    rw [HoldsAt, hlen] at hholds
    rw [HoldsAt, hadj] at hholds'
    rw [HoldsAt, List.length_append, State.memRead_add, hlen, hfirst, hholds, hholds']
  outside := fun x hx => by
    have hboth : r'.Excludes x ∧ r.Excludes x := by
      simp only [Region.Excludes] at hx ⊢
      omega
    exact (h'.outside x hboth.1).trans (h.outside x hboth.2)
  ref := h.ref.trans h'.ref
  setup := h.setup.trans h'.setup

theorem of_ecbAnswer {a : EcbAnswer} (h : Delivers r bs (s.ecbAnswer a) t) : Delivers r bs s t :=
  { h with setup := { h.setup with } }

theorem cbcRequest (h : Delivers r bs s t) (d : EcbDir) (l : CbcLocals) :
    Delivers r bs s (t.cbcRequest d l) :=
  { h with setup := { h.setup with } }

theorem of_cbcRequest {d : EcbDir} {l : CbcLocals} {o : Option Region}
    (h : Delivers r bs (({ s with dirty := o }).cbcRequest d l) t) : Delivers r bs s t :=
  { h with setup := { h.setup with } }

theorem ending (h : Delivers r bs s t) (d : EcbDir) (n : Nat) : Delivers r bs s (d.ending t n) := by
  cases d with
  | enc => exact (h.setResLen n).finish
  | dec => exact h.cbcdecEnd n

end Delivers

/-! ## Moves -/

theorem drive_succ {o : EcbRequest → EcbAnswer} {s t : State} (k : Nat)
    (h : driveStep o s = .next t) : drive o (k + 1) s = drive o k t := by
  simp only [drive, h]

theorem driveStep_of_not_waiting {o : EcbRequest → EcbAnswer} {s : State}
    (h : s.engine ≠ .waitEcb) : driveStep o s = engineStep s := by
  unfold driveStep
  split
  · next hwait _ => exact absurd hwait h
  · rfl

/-- A running command moves by its engine turn. -/
theorem driveStep_of_exec {o : EcbRequest → EcbAnswer} {s t : State} {i : Instr}
    (hrun : s.engine = .run) (hf : s.fetch = .ok i) (hx : exec i s = .next t) :
    driveStep o s = .next t := by
  rw [driveStep_of_not_waiting (by simp [hrun]), engineStep_of_fetch s i hrun hf, hx]

section

variable (enc dec : List Byte → List Byte → List Byte)

/-- The function with which the oracle answers requests of a direction. -/
def EcbDir.cipher : EcbDir → List Byte → List Byte → List Byte
  | .enc => enc
  | .dec => dec

theorem functionalOracle_eq (r : EcbRequest) :
    functionalOracle enc dec r = .ok (r.dir.cipher enc dec r.key r.block) := by
  unfold functionalOracle
  cases r.dir <;> rfl

/-- The answer to the request for block `l.block`. -/
def State.cbcAnswer (s : State) (d : EcbDir) (l : CbcLocals) : List Byte :=
  d.cipher enc dec l.key (d.request (blk l.data s.blkLen l.block) l.prev)

/-- The state after the write of that answer. -/
def State.blockDone (s : State) (d : EcbDir) (l : CbcLocals) : State :=
  (s.ecbAnswer (.ok (s.cbcAnswer enc dec d l))).writeBlock d l (s.cbcAnswer enc dec d l)

/-- The locals for the next block. -/
def State.nextBlock (s : State) (d : EcbDir) (l : CbcLocals) : CbcLocals :=
  d.nextLocals s.blkLen l (s.cbcAnswer enc dec d l)

end

/-- A CBC command waits for the answer to its request for block `l.block`, and `n` whole blocks are still
to come after that block. -/
structure CbcWaiting (d : EcbDir) (l : CbcLocals) (n : Nat) (s : State) : Prop where
  fetch : s.fetch = .ok d.command
  engine : s.engine = .waitEcb
  progress : s.progress = .waiting l
  pend : s.pend =
    some { dir := d, key := l.key, block := d.request (blk l.data s.blkLen l.block) l.prev }
  blkPos : 0 < s.blkLen
  prevBlock : l.prev.length = s.blkLen
  total : l.data.length = (l.block + 1 + n) * s.blkLen

/-- The answers have the length of the block size (R181). -/
def KeepsLength (f : List Byte → List Byte → List Byte) (b : Nat) : Prop :=
  ∀ k x, x.length = b → (f k x).length = b

namespace CbcWaiting

section

variable {enc dec : List Byte → List Byte → List Byte} {d : EcbDir} {l : CbcLocals} {n : Nat}
  {s t : State}

theorem length_blk (h : CbcWaiting d l n s) : (blk l.data s.blkLen l.block).length = s.blkLen :=
  blk_length _ _ _ (h.total ▸ Nat.mul_le_mul_right _ (Nat.le_add_right _ _))

/-- One block: the oracle's answer, and the engine turn after it (R182). -/
theorem drive_block (h : CbcWaiting d l n s) (hy : (s.cbcAnswer enc dec d l).length = s.blkLen)
    (hx : exec d.command (s.ecbAnswer (.ok (s.cbcAnswer enc dec d l))) = .next t) (k : Nat) :
    drive (functionalOracle enc dec) (k + 2) s = drive (functionalOracle enc dec) k t := by
  have hanswer : driveStep (functionalOracle enc dec) s
      = .next (s.ecbAnswer (.ok (s.cbcAnswer enc dec d l))) := by
    simp only [driveStep, h.engine, h.pend, functionalOracle_eq]
    exact oracleStep_of_waiting h.engine fun y hy' => by cases hy'; exact hy
  have hturn := driveStep_of_exec (o := functionalOracle enc dec) (s := s.ecbAnswer _) rfl h.fetch hx
  rw [drive_succ (k + 1) hanswer, drive_succ k hturn]

section

variable (hf : KeepsLength (d.cipher enc dec) s.blkLen)

include hf

theorem length_answer (h : CbcWaiting d l n s) : (s.cbcAnswer enc dec d l).length = s.blkLen :=
  hf _ _ (EcbDir.length_request h.length_blk h.prevBlock)

theorem length_output (h : CbcWaiting d l n s) :
    (d.output (s.cbcAnswer enc dec d l) l.prev).length = s.blkLen :=
  EcbDir.length_output (h.length_answer hf) h.prevBlock

theorem delivers (h : CbcWaiting d l n s) :
    Delivers (s.blockRegion l) (d.output (s.cbcAnswer enc dec d l) l.prev) s
      (s.blockDone enc dec d l) :=
  have hout := h.length_output hf
  (writeBlock_delivers (s := s.ecbAnswer _) hout).of_ecbAnswer

/-- The last block leads to the end. -/
theorem drive_last (h : CbcWaiting d l 0 s) (k : Nat) : drive (functionalOracle enc dec) (k + 2) s =
    drive (functionalOracle enc dec) k (d.ending (s.blockDone enc dec d l) l.data.length) :=
  h.drive_block (h.length_answer hf) (exec_of_last (State.ecbAnswer_progress h.progress _) h.total.le) k

/-- Every other block leads to the request for the next. -/
theorem drive_more (h : CbcWaiting d l (n + 1) s) (k : Nat) :
    drive (functionalOracle enc dec) (k + 2) s = drive (functionalOracle enc dec) k
      ((s.blockDone enc dec d l).cbcRequest d (s.nextBlock enc dec d l)) :=
  have hmore : (l.block + 1) * s.blkLen < l.data.length :=
    h.total ▸ Nat.mul_lt_mul_of_pos_right (by omega) h.blkPos
  h.drive_block (h.length_answer hf) (exec_of_more (State.ecbAnswer_progress h.progress _) hmore) k

theorem next (h : CbcWaiting d l (n + 1) s) : CbcWaiting d (s.nextBlock enc dec d l) n
    ((s.blockDone enc dec d l).cbcRequest d (s.nextBlock enc dec d l)) where
  fetch := h.fetch
  engine := rfl
  progress := rfl
  pend := rfl
  blkPos := h.blkPos
  prevBlock := EcbDir.length_chain h.length_blk (h.length_answer hf)
  total := by
    refine h.total.trans ?_
    rw [Nat.add_comm n 1, ← Nat.add_assoc]
    rfl

end

/-- From a request to the end: the blocks from `l.block` on are delivered in turn. -/
theorem drive_to_end (h : CbcWaiting d l n s) (hf : KeepsLength (d.cipher enc dec) s.blkLen) :
    ∃ t, drive (functionalOracle enc dec) (2 * (n + 1)) s = .next (d.ending t l.data.length) ∧
      Delivers { addr := s.arg 6 + l.block * s.blkLen, len := (n + 1) * s.blkLen }
        (d.fold (d.cipher enc dec l.key) l.prev
          ((List.range' l.block (n + 1)).map (blk l.data s.blkLen))) s t := by
  induction n generalizing l s with
  | zero =>
    refine ⟨s.blockDone enc dec d l, h.drive_last hf 0, ?_⟩
    rw [Nat.zero_add, Nat.one_mul, List.range'_one, List.map_singleton, EcbDir.fold, EcbDir.fold,
      List.append_nil]
    exact h.delivers hf
  | succ n ih =>
    obtain ⟨t, hdrive, hrest⟩ := ih (h.next hf) hf
    refine ⟨t, (h.drive_more hf _).trans hdrive, ?_⟩
    have hadj : s.arg 6 + (l.block + 1) * s.blkLen = s.arg 6 + l.block * s.blkLen + s.blkLen := by
      rw [Nat.succ_mul, Nat.add_assoc]
    have hboth := ((h.delivers hf).cbcRequest d _).append hrest (h.length_output hf) hadj
    rw [Nat.succ_mul (n + 1), Nat.add_comm ((n + 1) * s.blkLen), List.range'_succ, List.map_cons]
    exact hboth

end

end CbcWaiting

/-! ## Whole runs -/

section

variable {enc dec : List Byte → List Byte → List Byte} {d : EcbDir} {s : State}

/-- The run of a CBC command that passes its checks, on a text of one or more whole blocks. -/
theorem drive_of_valid {out : Region} (h : CbcReady d.command out s)
    (hv : firstFailure (validation d.command s) = none) (hwhole : s.blkLen ∣ (d.text s).length)
    (hpos : 0 < (d.text s).length) (hf : KeepsLength (d.cipher enc dec) s.blkLen) :
    ∃ t, drive (functionalOracle enc dec) (2 * ((d.text s).length / s.blkLen) + 1) s
        = .next (d.ending t (d.text s).length) ∧
      Delivers (s.argSized 6 (d.text s).length)
        (d.fold (d.cipher enc dec (s.readRegion (s.argRegion 2 3))) (s.readRegion (s.argRegion 4 5))
          (blocksOf (d.text s) s.blkLen)) s t := by
  obtain ⟨n, hn⟩ : ∃ n, (d.text s).length / s.blkLen = n + 1 :=
    Nat.exists_eq_add_one.mpr (Nat.div_pos (Nat.le_of_dvd hpos hwhole) h.blkPos)
  have hlen : (d.text s).length = (n + 1) * s.blkLen := by rw [← hn, Nat.div_mul_cancel hwhole]
  have hwait : CbcWaiting d (d.firstLocals s) n
      (({ s with dirty := outputRegion d.command s }).cbcRequest d (d.firstLocals s)) :=
    { fetch := h.fetch
      engine := rfl
      progress := rfl
      pend := rfl
      blkPos := h.blkPos
      prevBlock := (s.readRegion_length _).trans h.iv
      total := hlen.trans (congrArg (· * s.blkLen) (show n + 1 = 0 + 1 + n by omega)) }
  have hstart := driveStep_of_exec (o := functionalOracle enc dec) h.run h.fetch
    (exec_of_started h.fresh hv)
  obtain ⟨t, hdrive, hdelivers⟩ := hwait.drive_to_end hf
  refine ⟨t, ?_, ?_⟩
  · rw [hn, drive_succ _ hstart, hdrive]
    rfl
  · have hplace : s.arg 6 + 0 * s.blkLen = s.arg 6 := by rw [Nat.zero_mul, Nat.add_zero]
    rw [State.argSized, blocksOf, hn, hlen, List.range_eq_range', ← hplace]
    exact hdelivers.of_cbcRequest

end

theorem EcbDir.length_text_enc (s : State) :
    (enc.text s).length = s.arg 1 + padLen (s.arg 1) s.blkLen := by
  rw [text, padBytes_length, s.readRegion_length]
  rfl

theorem EcbDir.length_text_dec (s : State) : (dec.text s).length = s.arg 1 :=
  s.readRegion_length _

/-- Settles O37: the run in the direction ENC on the padded message. -/
theorem cbcencComputesCbcEncryption : Obligations.CbcencComputesCbcEncryption := by
  intro s enc dec h hf
  have hlen := EcbDir.length_text_enc s
  have hpos : 0 < (EcbDir.enc.text s).length := by
    rw [hlen]
    exact Nat.add_pos_right _ (padLen_pos _ _ h.blkPos)
  obtain ⟨t, hdrive, ht⟩ := drive_of_valid (d := .enc) (enc := enc) (dec := dec) h h.cbcenc_valid
    (dvd_padBytes_length _ _ h.blkPos) hpos hf
  rw [EcbDir.fold_enc] at ht
  rw [hlen] at hdrive ht
  have hdone := ht.ending .enc (s.arg 1 + padLen (s.arg 1) s.blkLen)
  exact ⟨_, hdrive, State.succeeded_finish _, rfl, hdone.holds, hdone.outside, hdone.ref, hdone.setup⟩

/-- Settles O38: the run in the direction DEC on the ciphertext; its end reads the last byte that the run
has delivered (`cbcdecEnd_of_holdsAt`). -/
theorem cbcdecComputesCbcDecryption : Obligations.CbcdecComputesCbcDecryption := by
  rintro s enc dec raw h hpos hwhole hf rfl
  have hlen := EcbDir.length_text_dec s
  have hdvd : s.blkLen ∣ s.arg 1 := Nat.dvd_of_mod_eq_zero hwhole
  obtain ⟨t, hdrive, ht⟩ := drive_of_valid (d := .dec) (enc := enc) (dec := dec) h
    (h.cbcdec_valid hpos hwhole) (hlen ▸ hdvd) (hlen ▸ hpos) hf
  have hraw := EcbDir.length_fold (d := .dec) (hf (s.readRegion (s.argRegion 2 3)))
    ((s.readRegion_length (s.argRegion 4 5)).trans h.iv)
    (length_of_mem_blocksOf (x := EcbDir.dec.text s))
  rw [length_blocksOf, hlen, Nat.div_mul_cancel hdvd] at hraw
  rw [EcbDir.fold_dec] at ht hraw
  rw [hlen] at hdrive ht
  obtain ⟨hle, hgt⟩ := cbcdecEnd_of_holdsAt (n := s.arg 1) ht.holds (hraw ▸ hpos) (by
    rw [ht.setup.arg]
    exact congrArg (s.arg 6 + ·) hraw)
  have hdone := ht.ending .dec (s.arg 1)
  exact ⟨_, hdrive, hdone.holds, hdone.outside, hle, fun hlt => (hgt hlt).1, hdone.ref, hdone.setup⟩

end Sys2Proof.Machine
end

section
/-! PROOF. The CBC round trip (R186). On byte sequences, decryption undoes encryption block by block
(`cbcDecryptRaw_cbcEncrypt`), so CBCDEC delivers the padded message and its last byte is the padding length;
any run of CBCENC that has come to rest is the one that `cbcencComputesCbcEncryption` speaks of, because a
resting engine moves no more (`drive_rest_unique`). -/

namespace Sys2Proof.Machine

/-! ## Blocks of a sequence -/

/-- A first block and the blocks of the rest. -/
theorem blocksOf_append {x : List Byte} {b : Nat} (hx : x.length = b) (hb : 0 < b)
    (rest : List Byte) : blocksOf (x ++ rest) b = x :: blocksOf rest b := by
  have hcount : (x ++ rest).length / b = rest.length / b + 1 := by
    rw [List.length_append, hx, Nat.add_div_left _ hb]
  have hfirst : blk (x ++ rest) b 0 = x := by rw [blk_zero, ← hx, List.take_left]
  have hlater (i : Nat) : blk (x ++ rest) b (i + 1) = blk rest b i := by
    rw [blk, Nat.succ_mul, Nat.add_comm, ← hx, ← List.drop_drop, List.drop_left, blk]
  rw [blocksOf, hcount, List.range_succ_eq_map, List.map_cons, List.map_map, hfirst]
  exact congrArg (x :: ·) (List.map_congr_left fun i _ => hlater i)

/-- A whole number of blocks, put together again. -/
theorem blocksOf_flatten {b k : Nat} (hb : 0 < b) {x : List Byte} (hx : x.length = k * b) :
    (blocksOf x b).flatten = x := by
  induction k generalizing x with
  | zero =>
    have hnil : x = [] := List.eq_nil_of_length_eq_zero (by rw [hx, Nat.zero_mul])
    subst hnil
    simp [blocksOf]
  | succ k ih =>
    rw [Nat.succ_mul] at hx
    have htake : (x.take b).length = b := by rw [List.length_take]; omega
    have hdrop : (x.drop b).length = k * b := by rw [List.length_drop]; omega
    have hcut := blocksOf_append htake hb (x.drop b)
    rw [List.take_append_drop] at hcut
    rw [hcut, List.flatten_cons, ih hdrop, List.take_append_drop]

/-! ## Decryption undoes encryption -/

section

variable {enc dec : List Byte → List Byte} {b : Nat}
  (hinv : ∀ x, x.length = b → (enc x).length = b ∧ dec (enc x) = x) (hb : 0 < b)

include hinv hb

theorem cbcDecryptRaw_cbcFoldEnc {prev : List Byte} {xs : List (List Byte)} (hprev : prev.length = b)
    (hxs : ∀ x ∈ xs, x.length = b) :
    cbcDecryptRaw dec b prev (cbcFoldEnc enc prev xs) = xs.flatten := by
  induction xs generalizing prev with
  | nil => simp [cbcDecryptRaw, cbcFoldEnc, blocksOf, cbcFoldDec]
  | cons x xs ih =>
    obtain ⟨hx, hrest⟩ := List.forall_mem_cons.mp hxs
    have hxor : (xorBytes x prev).length = b := by rw [xorBytes_length, hx, hprev, min_self]
    obtain ⟨hc, hback⟩ := hinv _ hxor
    rw [cbcDecryptRaw, cbcFoldEnc, blocksOf_append hc hb, cbcFoldDec, hback,
      xorBytes_self_inverse x prev (hx.trans hprev.symm), ← cbcDecryptRaw, ih hc hrest,
      List.flatten_cons]

theorem cbcDecryptRaw_cbcEncrypt {iv : List Byte} (hiv : iv.length = b) (m : List Byte) :
    cbcDecryptRaw dec b iv (cbcEncrypt enc b iv m) = padBytes m b := by
  obtain ⟨k, hk⟩ := dvd_padBytes_length m b hb
  rw [cbcEncrypt, cbcDecryptRaw_cbcFoldEnc hinv hb hiv length_of_mem_blocksOf,
    blocksOf_flatten hb (hk.trans (Nat.mul_comm b k))]

end

theorem cbcEncrypt_length {enc : List Byte → List Byte} {b : Nat} {iv : List Byte}
    (hf : ∀ x, x.length = b → (enc x).length = b) (hb : 0 < b) (hiv : iv.length = b) (m : List Byte) :
    (cbcEncrypt enc b iv m).length = (padBytes m b).length := by
  rw [cbcEncrypt, ← EcbDir.fold_enc, EcbDir.length_fold hf hiv length_of_mem_blocksOf,
    length_blocksOf, Nat.div_mul_cancel (dvd_padBytes_length m b hb)]

/-! ## Runs that have come to rest -/

theorem drive_of_idle {o : EcbRequest → EcbAnswer} {s : State} (h : s.engine = .idle) (k : Nat) :
    drive o k s = .next s := by
  have hstep : driveStep o s = .next s := by
    rw [driveStep_of_not_waiting (by simp [h])]
    simp only [engineStep, h]
  induction k with
  | zero => rfl
  | succ k ih => rw [drive_succ k hstep, ih]

theorem drive_add_of_idle {o : EcbRequest → EcbAnswer} {s t : State} {k : Nat}
    (hx : drive o k s = .next t) (h : t.engine = .idle) (j : Nat) : drive o (k + j) s = .next t := by
  induction k generalizing s with
  | zero =>
    cases hx
    exact drive_of_idle h _
  | succ k ih =>
    rw [Nat.succ_add]
    simp only [drive] at hx ⊢
    split at hx
    · exact ih hx
    · cases hx
    · cases hx

/-- All runs of a machine that come to rest do so in one state. -/
theorem drive_rest_unique {o : EcbRequest → EcbAnswer} {s t u : State} {j k : Nat}
    (ht : drive o j s = .next t) (hidle : t.engine = .idle) (hu : drive o k s = .next u)
    (hidle' : u.engine = .idle) : t = u := by
  have hleft := drive_add_of_idle ht hidle k
  have hright := drive_add_of_idle hu hidle' j
  rw [Nat.add_comm] at hright
  exact Host.Outcome.next.inj (hleft.symm.trans hright)

/-! ## The statement -/

/-- An output region in range has a length below 2^32. -/
theorem Region.Fits.len_lt {r : Region} {s : State} (h : r.Fits s)
    (hbuf : bufSizeWellFormed s.bufSize = true) : r.len < 2 ^ 32 := by
  simp only [bufSizeWellFormed, Bool.and_eq_true, decide_eq_true_eq] at hbuf
  simp only [Region.Fits] at h
  omega

theorem HoldsAt.of_append {s : State} {a : Nat} {xs ys : List Byte} (h : HoldsAt s a (xs ++ ys)) :
    s.memRead a xs.length = xs := by
  rw [HoldsAt, List.length_append, State.memRead_add] at h
  exact (List.append_inj h (s.memRead_length _ _)).1

/-- Settles O39: CBCDEC's ciphertext is what `cbcencComputesCbcEncryption` says CBCENC has delivered, so
`cbcdecComputesCbcDecryption` delivers the padded message. -/
theorem cbcRoundTripRestoresTheMessage : Obligations.CbcRoundTripRestoresTheMessage := by
  intro s t u enc dec k1 hbuf hs hinv hdec hrun hidle hu hblk harg htext hkey hiv
  obtain ⟨t', hrun', hdone, hres, hholds, -⟩ :=
    cbcencComputesCbcEncryption s enc dec hs fun k x hx => (hinv k x hx).1
  obtain rfl := drive_rest_unique hrun hidle hrun' hdone.rest.engine
  let m := s.readRegion (s.argRegion 0 1)
  have hm : m.length = s.arg 1 := s.readRegion_length _
  have hivLen : (s.readRegion (s.argRegion 4 5)).length = s.blkLen :=
    (s.readRegion_length _).trans hs.iv
  have hq : (padBytes m s.blkLen).length = s.arg 1 + padLen (s.arg 1) s.blkLen := by
    rw [padBytes_length, hm]
  have hpad := padLen_pos (s.arg 1) s.blkLen hs.blkPos
  have hresLen : t.resLen.toNat = s.arg 1 + padLen (s.arg 1) s.blkLen := by
    rw [hres]
    exact Nat.mod_eq_of_lt (hs.outFits.len_lt hbuf)
  have hcipher : u.readRegion (u.argRegion 0 1) = cbcEncrypt (enc (s.readRegion (s.argRegion 2 3)))
      s.blkLen (s.readRegion (s.argRegion 4 5)) m := by
    rw [htext, hresLen, ← hq, ← cbcEncrypt_length (fun x hx => (hinv _ x hx).1) hs.blkPos hivLen]
    exact hholds
  rw [hresLen] at harg
  have hwhole : u.arg 1 % u.blkLen = 0 := by
    rw [harg, hblk, ← hq]
    exact Nat.mod_eq_zero_of_dvd (dvd_padBytes_length m _ hs.blkPos)
  have hraw : padBytes m s.blkLen = cbcDecryptRaw (dec (u.readRegion (u.argRegion 2 3))) u.blkLen
      (u.readRegion (u.argRegion 4 5)) (u.readRegion (u.argRegion 0 1)) := by
    rw [hcipher, hkey, hiv, hblk, cbcDecryptRaw_cbcEncrypt (hinv _) hs.blkPos hivLen]
  obtain ⟨v, hdrive, hout, -, hend, -⟩ := cbcdecComputesCbcDecryption u enc dec _ hu
    (by omega) hwhole (fun k x hx => (hdec k x (hx.trans hblk)).trans hblk.symm) hraw
  obtain ⟨-, hlast, -⟩ := unpadUndoesPad m s.blkLen hs.blkPos s.blkLen_le
  rw [hlast, hm, harg, Nat.add_sub_cancel] at hend
  obtain ⟨hsucceeded, hlen⟩ := hend (Nat.le_add_left _ _)
  refine ⟨_, v, hdrive, hsucceeded, ?_, ?_⟩
  · rw [hlen]
    exact Nat.mod_eq_of_lt (s.snap.args.get 1).isLt
  · have hread := hout.of_append
    rwa [hm] at hread

end Sys2Proof.Machine
end

section
/-! PROOF. The engine's turn as a step of the machine (R78, R204): the turn is the next input, or no input
is left. -/

namespace Sys2Proof.Machine

theorem step_of_no_input {s : State} (h : s.inputs = []) : step s = engineStep s := by
  simp only [step, h]

theorem step_of_engine_input {s : State} {rest : List Input} (h : s.inputs = .engine :: rest) :
    step s = engineStep { s with inputs := rest } := by
  simp only [step, h, inputStep]

/-- Settles O5: both forms of the engine's turn fetch the command from the snapshot and run it
(`engineStep_of_fetch`). -/
theorem stepRunsTheDecodedCommand : Obligations.StepRunsTheDecodedCommand := by
  intro s i hrun hfetch _
  refine ⟨fun hnil => ?_, fun rest hcons => ?_⟩
  · rw [step_of_no_input hnil, engineStep_of_fetch s i hrun hfetch]
  · rw [step_of_engine_input hcons]
    exact engineStep_of_fetch { s with inputs := rest } i hrun hfetch

end Sys2Proof.Machine
end

section
/-! PROOF. Commands that end with an error (R206, R207): a failing check raises its code on the state as it
is, and EcbPrimitiveFailure raises 0x0A after the output region has become unspecified. -/

namespace Sys2Proof.Machine

/-! ## Failing checks -/

/-- R204: a command that has not begun raises its first failing check. -/
theorem exec_of_invalid {i : Instr} {s : State} {e : ErrCode} (hfresh : s.progress = .fresh)
    (hv : firstFailure (validation i s) = some e) : exec i s = .next (s.raiseError e) := by
  rw [exec_fresh i s hfresh, State.guarded_of_some _ _ _ e hv]

/-- Settles O40: the command's end is `State.raiseError`, a clean failure that draws no byte and issues no
request. -/
theorem validationErrorsChangeNothing : Obligations.ValidationErrorsChangeNothing :=
  fun _ s e hfresh hv => ⟨s.raiseError e, exec_of_invalid hfresh hv, s.failedCleanly_raiseError e,
    s.raiseError_draws e, s.raiseError_issued e⟩

/-! ## EcbPrimitiveFailure -/

/-- The answer Fail ends both CBC commands alike. -/
theorem exec_of_fail {s : State} {l : CbcLocals} (d : EcbDir) (hp : s.progress = .answered l .fail) :
    exec d.command s = .next (s.ecbFailed l) := by
  cases d with
  | enc => simp only [EcbDir.command, exec, execCbcenc, hp]
  | dec => simp only [EcbDir.command, exec, execCbcdec, hp]

theorem ecbFailed_sameSpOutside (s : State) (l : CbcLocals) :
    SameSpOutside (s.argSized 6 l.data.length) s (s.ecbFailed l) :=
  s.byteAt_scramble_outside (s.argSized 6 l.data.length)

theorem ecbFailed_sameResults (s : State) (l : CbcLocals) : SameResults s (s.ecbFailed l) :=
  ⟨rfl, rfl, rfl, rfl⟩

theorem ecbFailed_sameSetup (s : State) (l : CbcLocals) : SameSetup s (s.ecbFailed l) :=
  { SameSetup.refl s with }

/-- Settles O35: both commands end in `State.ecbFailed` (`exec_of_fail`), whose only writes to the
scratchpad are in the output region. -/
theorem ecbFailureLeavesOtherBytes : Obligations.EcbFailureLeavesOtherBytes := by
  intro s l i hi hp
  obtain ⟨d, rfl⟩ : ∃ d : EcbDir, i = d.command := hi.elim (⟨.enc, ·⟩) (⟨.dec, ·⟩)
  exact ⟨s.ecbFailed l, exec_of_fail d hp, State.failed_raiseError _ .ecbPrimitiveFailure,
    ecbFailed_sameSpOutside s l, ecbFailed_sameRef s l, ecbFailed_sameResults s l,
    ecbFailed_sameSetup s l⟩

end Sys2Proof.Machine
end

section
/-! PROOF. The resets (R240, R241). SRST and power-on reset share `State.clearRegisters`, and differ in
what they do to SP and REF: SRST keeps both but for DIRTY (`State.abort`), power-on makes every byte and
every entry unspecified. -/

namespace Sys2Proof.Machine

/-! ## The cleared registers -/

theorem State.statusWord_clearRegisters (s : State) : s.clearRegisters.statusWord = 0 := rfl

theorem State.args_clearRegisters (s : State) (i : Fin 8) : s.clearRegisters.args.get i = 0 := by
  simp [State.clearRegisters, Vector.get_eq_getElem]

theorem get_refAfterPowerOn (epoch : Nat) (v : Fin 256) :
    (refAfterPowerOn epoch).get v = Config.refPowerOn epoch v.val := by
  simp [refAfterPowerOn, Vector.get_eq_getElem]

/-! ## Power-on reset -/

/-- Clearing the registers gives the values of R240 where nothing has been written since power-on. -/
theorem PowerOnValues.clearRegisters {s : State} (hsp : s.sp = { cells := [] })
    (href : s.ref = refAfterPowerOn s.epoch) : PowerOnValues s.clearRegisters where
  sym := rfl
  status := s.statusWord_clearRegisters
  ie := rfl
  cmd := rfl
  blksz := rfl
  args := s.args_clearRegisters
  resLen := rfl
  resKey := rfl
  resIdx := rfl
  resScore := rfl
  refValid := rfl
  engine := rfl
  pend := rfl
  dirty := rfl
  progress := rfl
  irq := rfl
  sp a := by
    change (s.sp.get? a).getD (unlistedByte s.epoch a) = _
    rw [hsp]
    rfl
  ref v := by
    change s.ref.get v = _
    rw [href]
    exact get_refAfterPowerOn s.epoch v

theorem State.reset_powerOnValues : PowerOnValues State.reset :=
  PowerOnValues.clearRegisters (s := State.reset) rfl rfl

/-- The platform's storage comes first; the registers are then cleared as SRST clears them. -/
theorem State.powerOn_powerOnValues (s : State) : PowerOnValues s.powerOn :=
  PowerOnValues.clearRegisters
    (s := { s with
      sp := { cells := [] }, ref := refAfterPowerOn (s.epoch + 1), hostResp := none,
      epoch := s.epoch + 1 }) rfl rfl

theorem step_of_powerOn_input {s : State} {rest : List Input} (h : s.inputs = .powerOn :: rest) :
    step s = .next { s with inputs := rest }.powerOn := by
  simp only [step, h, inputStep]

/-- Settles O55: both states are `State.clearRegisters` of a state with unwritten storage
(`PowerOnValues.clearRegisters`). -/
theorem resetGivesThePowerOnValues : Obligations.ResetGivesThePowerOnValues := by
  refine ⟨State.reset_powerOnValues, fun s rest hcons => ?_⟩
  exact ⟨_, step_of_powerOn_input hcons, State.powerOn_powerOnValues _, rfl, rfl, rfl⟩

/-! ## SRST -/

/-- A write of SRST is carried out whether or not the engine is BUSY, and wins over START (R24). -/
theorem hostWrite_srst (s : State) {v : Word} (hsrst : v.getLsbD 1 = true) :
    hostWrite 0x008 .word v s = { s.softReset with hostResp := some .ok } := by
  have hctrl : s.writeCtrl v = s.softReset := if_pos hsrst
  rw [hostWrite_reg s v (by decide) (by decide), ← hctrl]
  rfl

/-- R241 c: with no command running, or none that has an output region, nothing is scrambled. -/
theorem State.abort_of_clean {s : State} (h : s.engine = .idle ∨ s.dirty = none) : s.abort = s := by
  unfold State.abort
  split
  · next r hdirty =>
    have hidle : s.engine = .idle := h.resolve_right (by simp [hdirty])
    exact if_neg fun hbusy => s.busy_iff.mp hbusy hidle
  · rfl

theorem State.abort_bufSize (s : State) : s.abort.bufSize = s.bufSize := by
  unfold State.abort
  split
  · split
    · exact s.scramble_bufSize _
    · rfl
  · rfl

theorem softReset_sameSp_of_clean {s : State} (h : s.engine = .idle ∨ s.dirty = none) :
    SameSp s s.softReset := by
  rw [State.softReset, State.abort_of_clean h]
  exact .refl s

/-- A running command's DIRTY is all that SRST makes unspecified. -/
theorem softReset_sameSpOutside {s : State} {r : Region} (hdirty : s.dirty = some r) :
    SameSpOutside r s s.softReset := by
  have hkept := softReset_keptOutside s
  rw [hdirty] at hkept
  exact fun a ha => hkept a fun r' hr' => Option.some.inj hr' ▸ ha

/-- Settles O45: the registers are those of `State.clearRegisters`, and the scratchpad is that of
`State.abort`, which writes DIRTY only. -/
theorem softResetClearsTheRegisters : Obligations.SoftResetClearsTheRegisters := by
  intro s v hsrst
  rw [hostWrite_srst s hsrst]
  obtain ⟨href, -⟩ := softReset_refKept s
  exact ⟨rfl, s.abort.statusWord_clearRegisters, rfl, rfl, rfl, s.abort.args_clearRegisters, rfl, rfl,
    rfl, rfl, rfl, href, rfl, rfl, rfl, rfl, s.abort_bufSize, softReset_sameSp_of_clean,
    fun _ => softReset_sameSpOutside⟩

end Sys2Proof.Machine
end
